-- ==== Sys2Proof/Word.lean ====
section
/-! DEFINITION. The units of the three address spaces (R50): bytes of frames, words of the register bank,
and the sparse store that holds either kind. -/

namespace Sys2Proof

/-- A byte of a frame or of a frame buffer (uint8, R10). -/
abbrev Byte := BitVec 8

/-- A holding register, or any other 16-bit quantity (uint16, R10, R21). -/
abbrev Word := BitVec 16

/-- A sparse store of `w`-bit units: (address, unit) pairs, addresses strictly rising, no unit equal to
what an unlisted address reads as (zero, log entry 9). The canonical form is `cellsWf`. -/
abbrev Cells (w : Nat) := List (Nat × BitVec w)

/-- A byte-addressed space: one of the two frame buffers (R50). Definitionally `Cells 8`. -/
abbrev Memory := List Host.Cell

/-- The register-addressed space, the register bank (R50, R51). -/
abbrev Bank := Cells 16

end Sys2Proof
end

