-- ==== Sys2Proof/Config.lean ====
section
/-! DEFINITION. What is fixed while the hardware runs: the parameters and constants of R7. The parameters
stand in `State.cfg`, so that a statement about every state is a statement about every configuration. The
spec leaves no value free, so there is no uninterpreted constant here. -/

namespace Sys2Proof

/-- The static configuration (R7, R32). Nothing changes it while the hardware runs. -/
structure Config where
  /-- `N`, the number of registers of the bank. -/
  n : Nat
  /-- `UNIT_ID`, the slave's own unit id. No value is special (R160). -/
  unitId : Byte
  /-- `W_IN`, the width of a value presented to BANK_WRITE. -/
  wIn : Nat
  /-- `BANK_INIT`, the bank's contents after Reset. -/
  bankInit : Bank
  deriving DecidableEq, Repr

/-- `MIN_FRAME`: the minimum and, in the sequencer, exact request length (R7). -/
def Config.minFrame : Nat := 8

/-- `FC_READ_HOLDING_REGISTERS` (R7). -/
def Config.fcReadHoldingRegisters : Byte := 0x03#8

/-- `FATAL_THRESHOLD` (R7). -/
def Config.fatalThreshold : Nat := 3

/-- `TXMAX = 2*N + 5`, the capacity of the transmit buffer (R7, R172). -/
def Config.txMax (c : Config) : Nat := 2 * c.n + 5

/-- The reference configuration: the reference values of R7's table (log entry 5; UNIT_ID is the value of
the spec's examples, DESIGN CHOICE). -/
def Config.reference : Config := { n := 12, unitId := 1#8, wIn := 32, bankInit := [] }

end Sys2Proof
end

