-- ==== Sys2Proof/Machine/Cells.lean ====
section
/-! DEFINITION. Reading and writing the sparse stores: the register bank and the two frame buffers (R50).
An unlisted address reads as zero (log entry 9); a write keeps the canonical form `cellsWf`. -/

namespace Sys2Proof.Machine

/-- The unit at an address; an unlisted address reads as zero (log entry 9). -/
def cellsRead {w : Nat} : Cells w → Nat → BitVec w
  | [], _ => 0#w
  | (k, v) :: m, a => if k = a then v else cellsRead m a

/-- Store one unit. Writing zero removes the entry, so that equal stores are equal data. -/
def cellsWrite {w : Nat} : Cells w → Nat → BitVec w → Cells w
  | [], a, v => if v = 0#w then [] else [(a, v)]
  | (k, x) :: m, a, v =>
    if a < k then (if v = 0#w then (k, x) :: m else (a, v) :: (k, x) :: m)
    else if a = k then (if v = 0#w then m else (a, v) :: m)
    else (k, x) :: cellsWrite m a v

/-- `n` consecutive units from an address on. -/
def cellsReadBurst {w : Nat} (m : Cells w) : Nat → Nat → List (BitVec w)
  | _, 0 => []
  | a, n + 1 => cellsRead m a :: cellsReadBurst m (a + 1) n

/-- Store consecutive units from an address on. -/
def cellsWriteBurst {w : Nat} : Cells w → Nat → List (BitVec w) → Cells w
  | m, _, [] => m
  | m, a, v :: vs => cellsWriteBurst (cellsWrite m a v) (a + 1) vs

/-- The canonical form of a store of `size` units: addresses strictly rising and below `size`, no zero. -/
def cellsWf {w : Nat} (size : Nat) : Cells w → Bool
  | [] => true
  | (k, v) :: m => decide (k < size) && (v != 0#w) && m.all (fun c => decide (k < c.1)) && cellsWf size m

/-- The canonical form of a frame buffer of `size` bytes. -/
def Memory.wf (size : Nat) (m : Memory) : Bool := cellsWf size m

/-- The canonical form of a bank of `n` registers. -/
def Bank.wf (n : Nat) (x : Bank) : Bool := cellsWf n x

end Sys2Proof.Machine
end

