-- ==== Sys2Proof/Machine/Bytes.lean ====
section
/-! DEFINITION. Byte order and narrowing (R11, R12, R54, R55, R196): how a 16-bit quantity is split into
bytes and joined again, and how a value given to BANK_WRITE is clipped. -/

namespace Sys2Proof.Machine

/-- `hi8(v) = v[15:8]` (R11). -/
def hi8 (v : Word) : Byte := v.extractLsb' 8 8

/-- `lo8(v) = v[7:0]` (R11). -/
def lo8 (v : Word) : Byte := v.extractLsb' 0 8

/-- Big-endian pair: the first byte is the high byte (R12, R54). -/
def u16be (h l : Byte) : Word := h ++ l

/-- Little-endian pair: the first byte is the low byte (R12, R55). -/
def u16le (l h : Byte) : Word := h ++ l

/-- The two bytes of a word in a frame body, high byte first (R54). -/
def be2 (v : Word) : List Byte := [hi8 v, lo8 v]

/-- The two bytes of a CRC trailer, low byte first (R55, R114). -/
def le2 (v : Word) : List Byte := [lo8 v, hi8 v]

/-- Clipping before storage (R196): negative values become 0, values above 65535 become 65535. -/
def clip16 (v : Int) : Word :=
  if v < 0 then 0#16 else if 65535 < v then 65535#16 else BitVec.ofNat 16 v.toNat

/-- Is `v` a two's-complement signed integer of `k` bits (`sintK`, R10)? -/
def sintHolds (k : Nat) (v : Int) : Bool :=
  decide (-(2 ^ (k - 1) : Int) ≤ v) && decide (v < (2 ^ (k - 1) : Int))

end Sys2Proof.Machine
end

