-- ==== Sys2Proof/Machine/Frames.lean ====
section
/-! DEFINITION. How frames are laid out (spec/30_encoding.md, spec/43_frame_encode.md): frame bodies, the two
encoders, and the spec's notation for requests. -/

namespace Sys2Proof.Machine

/-- The first six bytes of a request (R81, R84): unit id, function code, address, count. -/
def requestBody (u f : Byte) (a n : Word) : List Byte := [u, f] ++ be2 a ++ be2 n

/-- A success response without its trailer (R82). -/
def responseBody (u f b : Byte) (vs : List Word) : List Byte := [u, f, b] ++ vs.flatMap be2

/-- An exception response without its trailer (R83). Setting bit 7 again changes nothing (R171). -/
def exceptionBody (u f e : Byte) : List Byte := [u, f ||| 0x80#8, e]

/-- ENCODE_RESPONSE (R170). -/
def encodeResponse (u f b : Byte) (vs : List Word) : List Byte := withTrailer (responseBody u f b vs)

/-- ENCODE_EXCEPTION (R171). -/
def encodeException (u f e : Byte) : List Byte := withTrailer (exceptionBody u f e)

/-- `REQ u, f, a, n` (R92): a request with a valid trailer. -/
def reqForm (u f : Byte) (a n : Word) : List Byte := withTrailer (requestBody u f a n)

/-- `RHR u, a, n` (R92, R93). -/
def rhrForm (u : Byte) (a n : Word) : List Byte := reqForm u 0x03#8 a n

/-- `byte_count = (register_count * 2) & 0xFF` (R86, R150). -/
def byteCount (count : Word) : Byte := BitVec.ofNat 8 (count.toNat * 2)

end Sys2Proof.Machine
end

