-- ==== Sys2Proof/Syntax.lean ====
section
/-! DEFINITION. The instructions: one constructor per row of spec/opcode_table.json, with the row's letters
as operands; and the signals of a local-port request (R94). -/

namespace Sys2Proof

/-- One constructor per row of the opcode table. A REQ8 frame carries its trailer `c` as an operand (log
entry 10): whether it matches is part of the meaning, since a frame whose trailer does not match has the
effect R90 gives it, a silent drop. -/
inductive Instr where
  /-- RHR (R87, R156): unit id, start address, register count, received CRC. -/
  | rhr (u : Byte) (a n c : Word)
  /-- ILLFN (R88, R157): unit id, function code other than 3, two ignored operands, received CRC. -/
  | illfn (u f : Byte) (a n c : Word)
  /-- RESP_RHR (R82, R170): unit id, byte count, register values, CRC. An output format. -/
  | respRhr (u b : Byte) (vs : List Word) (c : Word)
  /-- RESP_EXC (R83, R171): unit id, function code with bit 7 set, exception code, CRC. An output format. -/
  | respExc (u f e : Byte) (c : Word)
  /-- BANK_READ on the local port (R191): start, count. -/
  | bankRead (start count : Word)
  /-- BANK_WRITE on the local port (R194): start, values of `W_IN` bits each. -/
  | bankWrite (start : Word) (values : List Int)
  deriving DecidableEq, Repr

/-- The signals of one local-port request (R94): `loc_op` (false = read, true = write), `loc_start`,
`loc_len`, `loc_wdata`. -/
structure LocRequest where
  op : Bool
  start : Word
  len : Word
  wdata : List Int
  deriving DecidableEq, Repr

end Sys2Proof
end

