-- ==== Sys2Proof/WellFormed.lean ====
section
/-! DEFINITION. Which configurations are legal and which instructions are well-formed under one. -/

namespace Sys2Proof

/-- A legal configuration (R7, R8): `1 <= N <= 127`, `W_IN >= 18`, `BANK_INIT` a bank of N registers. -/
def Config.legal (c : Config) : Bool :=
  decide (1 ≤ c.n) && decide (c.n ≤ 127) && decide (18 ≤ c.wIn) && Machine.Bank.wf c.n c.bankInit

/-- Well-formed under a configuration: the constraints the opcode table writes beside a row's pattern. A
REQ8 frame's trailer is valid (R90); ILLFN's code is not 3 (R88); a response holds 1 to N values and counts
their bytes (R170); an exception's code is 0x01 or 0x02 and its function byte has bit 7 set (R171); a local
write presents at most 65535 values of `W_IN` bits each (R194, R196). -/
def Instr.wellFormed (cfg : Config) : Instr → Bool
  | .rhr u a n c => Machine.verify (Machine.requestBody u Config.fcReadHoldingRegisters a n) c
  | .illfn u f a n c => (f != Config.fcReadHoldingRegisters) && Machine.verify (Machine.requestBody u f a n) c
  | .respRhr u b vs c =>
    decide (1 ≤ vs.length) && decide (vs.length ≤ cfg.n) && decide (b.toNat = 2 * vs.length) &&
      Machine.verify (Machine.responseBody u Config.fcReadHoldingRegisters b vs) c
  | .respExc u f e c =>
    f.getLsbD 7 && (e == 0x01#8 || e == 0x02#8) && Machine.verify [u, f, e] c
  | .bankRead _ _ => true
  | .bankWrite _ vs => decide (vs.length ≤ 65535) && vs.all (Machine.sintHolds cfg.wIn)

end Sys2Proof
end

