-- ==== Sys2Proof/Decode.lean ====
section
/-! DEFINITION. DECODE as the spec defines it (R130), the decoders from bytes and port signals to Instr, the
encoder from the same tables, and the reading of an opcode-table word. All are total and reject by name. -/

namespace Sys2Proof

/-- Why a byte sequence or a set of port signals is no instruction. -/
inductive DecodeError where
  /-- Fewer than 8 bytes (R131). -/
  | frameTooShort
  /-- The trailer is not the CRC of the body (R133). -/
  | crcMismatch
  /-- More than the 8 bytes the sequencer hands over (R91). -/
  | frameTooLong
  /-- An output frame of fewer bytes than its format has, or more (R80). -/
  | outputLength
  /-- An output frame whose byte count is not its number of value bytes, or odd (R82). -/
  | outputByteCount
  /-- An output frame whose function byte is neither 0x03 nor has bit 7 set (R82, R83). -/
  | outputFunction
  /-- A local write whose number of values is not `loc_len` (R94). -/
  | wdataCount
  deriving DecidableEq, Repr

/-- RequestFrame (R130, R135). -/
structure RequestFrame where
  unitId : Byte
  functionCode : Byte
  startAddress : Word
  registerCount : Word
  deriving DecidableEq, Repr

/-- DECODE (R130): length, then CRC over everything but the last two bytes, then the four fields. Bytes
between the fields and the trailer are covered by the CRC and otherwise ignored (R136). -/
def decodeFrame (B : List Byte) : Except DecodeError RequestFrame :=
  if B.length < Config.minFrame then .error .frameTooShort
  else if Machine.verify (B.take (B.length - 2))
      (Machine.u16le (B.getD (B.length - 2) 0#8) (B.getD (B.length - 1) 0#8)) then
    .ok { unitId := B.getD 0 0#8
          functionCode := B.getD 1 0#8
          startAddress := Machine.u16be (B.getD 2 0#8) (B.getD 3 0#8)
          registerCount := Machine.u16be (B.getD 4 0#8) (B.getD 5 0#8) }
  else .error .crcMismatch

/-- The request frame in an 8-byte buffer (R81, R84, R85, R87, R88): RHR if byte 1 is 0x03, else ILLFN. -/
def decodeReq8 : List Byte → Except DecodeError Instr
  | [b0, b1, b2, b3, b4, b5, b6, b7] =>
    if b1 = Config.fcReadHoldingRegisters then
      .ok (.rhr b0 (Machine.u16be b2 b3) (Machine.u16be b4 b5) (Machine.u16le b6 b7))
    else .ok (.illfn b0 b1 (Machine.u16be b2 b3) (Machine.u16be b4 b5) (Machine.u16le b6 b7))
  | B => if B.length < Config.minFrame then .error .frameTooShort else .error .frameTooLong

/-- The values of a response and its trailer, by position (R82, R176). -/
def splitResponse : List Byte → Option (List Word × Word)
  | [l, h] => some ([], Machine.u16le l h)
  | h :: l :: rest =>
    match splitResponse rest with
    | some (vs, c) => some (Machine.u16be h l :: vs, c)
    | none => none
  | _ => none

/-- Field recovery from an output frame (R176). The two formats are told apart by bit 7 of byte 1 (R91). -/
def decodeOutput : List Byte → Except DecodeError Instr
  | u :: f :: x :: rest =>
    if f.getLsbD 7 then
      match rest with
      | [l, h] => .ok (.respExc u f x (Machine.u16le l h))
      | _ => .error .outputLength
    else if f = Config.fcReadHoldingRegisters then
      match splitResponse rest with
      | some (vs, c) => if x.toNat = 2 * vs.length then .ok (.respRhr u x vs c) else .error .outputByteCount
      | none => .error .outputLength
    else .error .outputFunction
  | _ => .error .outputLength

/-- The local-port signals (R94). -/
def decodePort (r : LocRequest) : Except DecodeError Instr :=
  if r.op then
    if r.wdata.length = r.len.toNat then .ok (.bankWrite r.start r.wdata) else .error .wdataCount
  else .ok (.bankRead r.start r.len)

/-- An instruction as it stands at the hardware's boundary: bytes toward it, bytes from it, or the signals
of the local port (R80, R94). -/
inductive Encoded where
  | toHardware (B : List Byte)
  | fromHardware (B : List Byte)
  | port (r : LocRequest)
  deriving DecidableEq, Repr

/-- The decoder: each boundary has its own. -/
def decode : Encoded → Except DecodeError Instr
  | .toHardware B => decodeReq8 B
  | .fromHardware B => decodeOutput B
  | .port r => decodePort r

/-- The encoder, from the tables of spec/30_encoding.md (R81, R82, R83, R94). -/
def encode : Instr → Encoded
  | .rhr u a n c => .toHardware (Machine.requestBody u Config.fcReadHoldingRegisters a n ++ Machine.le2 c)
  | .illfn u f a n c => .toHardware (Machine.requestBody u f a n ++ Machine.le2 c)
  | .respRhr u b vs c =>
    .fromHardware (Machine.responseBody u Config.fcReadHoldingRegisters b vs ++ Machine.le2 c)
  | .respExc u f e c => .fromHardware ([u, f, e] ++ Machine.le2 c)
  | .bankRead start count => .port { op := false, start := start, len := count, wdata := [] }
  | .bankWrite start vs =>
    .port { op := true, start := start, len := BitVec.ofNat 16 vs.length, wdata := vs }

/-- The `k` bytes of a table word. The table numbers bits with byte 0, the first on the wire, most
significant (its source_fields: unit_id is bits 63:56; log entry 19). -/
def tableBytes : Nat → Nat → List Byte
  | 0, _ => []
  | k + 1, w => BitVec.ofNat 8 (w >>> (8 * k)) :: tableBytes k w

/-- The instruction a table word stands for, as it lies at the boundary: 64 bits a request, 40 an exception
response, 24 the header of a success response (its values and trailer, which the table gives no bits, are
zero), 8 or fewer the port field `loc_op` (its other signals zero). -/
def tableWord (nbits w : Nat) : Option Encoded :=
  if nbits = 64 then some (.toHardware (tableBytes 8 w))
  else if nbits = 40 then some (.fromHardware (tableBytes 5 w))
  else if nbits = 24 then
    some (.fromHardware (tableBytes 3 w ++ List.replicate (w % 256 + 2) 0#8))
  else if 0 < nbits && nbits ≤ 8 then
    some (.port { op := w.testBit 0, start := 0#16, len := 0#16, wdata := [] })
  else none

/-- The instruction the decoder reads from an opcode-table word. -/
def decodeTableWord (nbits w : Nat) : Option Instr :=
  match tableWord nbits w with
  | none => none
  | some x =>
    match decode x with
    | .ok i => some i
    | .error _ => none

end Sys2Proof
end

