-- ==== Sys2Proof/Machine/State.lean ====
section
/-! DEFINITION. The machine's state as plain data (R20), what its ports emit, what arrives at them, why a
step can stop, and the state after reset (R36). -/

namespace Sys2Proof.Machine

/-- The sequencer's phase (R26). -/
inductive Phase where
  | accum
  | exec
  | respond
  | stopped
  | fatal
  deriving DecidableEq, Repr

/-- The outcomes of R30. -/
inductive OutcomeCode where
  | none
  | okResponse
  | excIllegalFunction
  | excIllegalDataAddress
  | dropFrameTooShort
  | dropCrcMismatch
  | dropUnitIdMismatch
  | transportError
  deriving DecidableEq, Repr

/-- The 3-bit number of an outcome, `diag_code[2:0]` (R30, R31). -/
def OutcomeCode.code : OutcomeCode → BitVec 3
  | .none => 0#3
  | .okResponse => 1#3
  | .excIllegalFunction => 2#3
  | .excIllegalDataAddress => 3#3
  | .dropFrameTooShort => 4#3
  | .dropCrcMismatch => 5#3
  | .dropUnitIdMismatch => 6#3
  | .transportError => 7#3

/-- What arrives at the input ports (R237), and the passing of time in which the internal step Exec can
occur. An event whose step is not enabled passes without a step (log entry 2). -/
inductive Event where
  /-- `rx_valid` with `rx_data = b` (R221). -/
  | rxByte (b : Byte)
  /-- `rx_timeout` (R222). -/
  | rxTimeout
  /-- No input: the internal step, if one is enabled (R223). -/
  | internal
  /-- `tx_ready` (R224). -/
  | txReady
  /-- `xport_err` (R225). -/
  | xportErr
  /-- `shutdown` (R226). -/
  | shutdown
  /-- A local-port request (R94, R227). -/
  | loc (r : LocRequest)
  /-- `rst` (R228). -/
  | reset
  deriving DecidableEq, Repr

/-- What a step emits at the output ports (R237). -/
inductive Output where
  /-- A byte accepted by the transport, with `tx_last` (R224). -/
  | tx (b : Byte) (last : Bool)
  /-- `diag_valid` with `diag_code` (R31). -/
  | diag (o : OutcomeCode)
  /-- `loc_done` with `loc_ok` and, when ok, `loc_rdata` (R94). -/
  | loc (ok : Bool) (rdata : List Word)
  deriving DecidableEq, Repr

/-- Why the machine stops with a fault. -/
inductive Fault where
  /-- An access to byte `a` of the transmit buffer, which does not exist (R50: addresses 0 to TXMAX-1).
  Raised by loading a frame longer than TXMAX (only RESP_RHR with more than N values) and by TxByte with
  `tx_idx >= TXMAX` (no reachable state). Safe: it stops where the spec gives nothing (log entry 12). -/
  | noSuchTxByte (a : Nat)
  deriving DecidableEq, Repr

/-- Why an instruction or a step is refused. -/
inductive Refusal where
  /-- Not modelled yet, by mnemonic. No arm of exec answers it now. Safe. -/
  | notModelled (mnemonic : String)
  /-- The configuration is outside its legal range. Raised by step. Safe: the spec's own treatment is
  'refuse' (spec/93 I6, I8; log entry 6). -/
  | illegalConfiguration
  /-- A local-port request the ports cannot present: a value outside sint W_IN, or a number of values other
  than `loc_len`. Raised by step's local-port path. Safe: values outside sint W_IN cannot be presented at
  all (R196; log entry 7). -/
  | notPresentable
  deriving DecidableEq, Repr

/-- The state: the record of R20, and two fields of the model's own. -/
structure State where
  /-- Configuration `N`, `UNIT_ID`, `W_IN`, `BANK_INIT` (R32). -/
  cfg : Config
  /-- The register bank `x[0..N-1]` (R21). -/
  bank : Bank
  /-- The sequencer's phase (R26). -/
  phase : Phase
  /-- `rx_buf[0..7]` (R24). -/
  rxBuf : Memory
  /-- `rx_cnt`, 0..8 (R24, R27). -/
  rxCnt : Nat
  /-- `tx_buf[0..TXMAX-1]` (R25). -/
  txBuf : Memory
  /-- `tx_len`, 0..TXMAX (R25). -/
  txLen : Nat
  /-- `tx_idx`, 0..TXMAX (R25). -/
  txIdx : Nat
  /-- `xfail`, 0..3 (R28). -/
  xfail : Nat
  /-- `stop_req` (R29). -/
  stopReq : Bool
  /-- `last_outcome` (R30). -/
  lastOutcome : OutcomeCode
  /-- The model's own: the input events still to come, in order (log entry 1). -/
  inputs : List Event
  /-- The model's own: what has been emitted so far, newest first (R31; log entry 4). -/
  outputs : List Output
  deriving DecidableEq, Repr

/-- The state after Reset under a configuration (R36, R280). The buffers' contents are unspecified there and
read as zero here (DESIGN CHOICE, log entry 8). -/
def State.boot (c : Config) : State :=
  { cfg := c, bank := c.bankInit, phase := .accum, rxBuf := [], rxCnt := 0, txBuf := [], txLen := 0,
    txIdx := 0, xfail := 0, stopReq := false, lastOutcome := .none, inputs := [], outputs := [] }

/-- The state right after reset in the reference configuration (R36; log entry 5). -/
def State.reset : State := State.boot Config.reference

/-- The outcome of a step of this machine. -/
abbrev Result := Host.Outcome State Fault Refusal

end Sys2Proof.Machine
end

