-- ==== Sys2Proof/Machine/Flags.lean ====
section
/-! DEFINITION. The status fields (spec/10_state.md section 5): what sets and clears `last_outcome`, `xfail`
and `stop_req`, and the phase that follows from them. -/

namespace Sys2Proof.Machine

/-- Emit one thing at the output ports. -/
def emit (o : Output) (s : State) : State := { s with outputs := o :: s.outputs }

/-- Record an outcome and present it once on the diagnostic port (R30, R31). -/
def report (o : OutcomeCode) (s : State) : State := emit (.diag o) { s with lastOutcome := o }

/-- `idle()` (R223): where the request path goes when it would wait for bytes. -/
def idlePhase (s : State) : Phase := if s.stopReq then .stopped else .accum

/-- `phase <- idle()` (R223, R29). -/
def toIdle (s : State) : State := { s with phase := idlePhase s }

/-- A successful transport operation breaks a run of failures (R28). -/
def transportOk (s : State) : State := { s with xfail := 0 }

/-- A transport failure is reported and counted, saturating at 3; at the threshold the phase is FATAL (R28,
R225). -/
def transportFailed (s : State) : State :=
  let k := min (s.xfail + 1) Config.fatalThreshold
  report .transportError
    { s with xfail := k, phase := if k = Config.fatalThreshold then .fatal else s.phase }

/-- The shutdown signal is latched (R29, R226). -/
def latchStop (s : State) : State := { s with stopReq := true }

end Sys2Proof.Machine
end

