-- ==== Sys2Proof/Machine/Ops.lean ====
section
/-! DEFINITION. The shared operations: the guarded bank operations (spec/44_register_bank_guard.md), loading
an answer for transmission, dropping a frame, and raising a Modbus exception. -/

namespace Sys2Proof.Machine

/-- The one failure of a bank operation (R191, R194). -/
inductive BankError where
  | outOfRange
  deriving DecidableEq, Repr

/-- MemRead (R13, R193): the whole burst is sampled at one point. -/
def memRead (x : Bank) (a n : Nat) : List Word := cellsReadBurst x a n

/-- MemWrite (R13, R197): the whole burst is stored at one point. -/
def memWrite (x : Bank) (a : Nat) (vs : List Word) : Bank := cellsWriteBurst x a vs

/-- BANK_READ (R191). The sum is a mathematical integer (R210). -/
def bankRead (n : Nat) (x : Bank) (start count : Word) : Except BankError (List Word) :=
  if count = 0#16 ∨ n < start.toNat + count.toNat then .error .outOfRange
  else .ok (memRead x start.toNat count.toNat)

/-- BANK_WRITE (R194): the range is checked before any register is written (R195), each value is clipped
(R196), and an empty write in range succeeds (R198). -/
def bankWrite (n : Nat) (x : Bank) (start : Word) (values : List Int) : Except BankError Bank :=
  if n < start.toNat + values.length then .error .outOfRange
  else .ok (memWrite x start.toNat (values.map clip16))

/-- `tx_buf[0:len(F)] <- F ; tx_len <- len(F) ; tx_idx <- 0 ; phase <- RESPOND` (R223). -/
def loadTx (F : List Byte) (s : State) : State :=
  { s with txBuf := cellsWriteBurst s.txBuf 0 F, txLen := F.length, txIdx := 0, phase := .respond }

/-- Load an encoded frame for transmission and record the outcome (R223). A frame that does not fit the
transmit buffer would store to a byte that does not exist (log entry 12). -/
def answer (F : List Byte) (o : OutcomeCode) (s : State) : Result :=
  if F.length ≤ s.cfg.txMax then .next (report o (loadTx F s))
  else .fault (.noSuchTxByte s.cfg.txMax)

/-- A frame is dropped without an answer (R251, R253, R223). -/
def drop (o : OutcomeCode) (s : State) : State := report o (toIdle s)

/-- The receive buffer is emptied (R223, R225, R226). -/
def clearRx (s : State) : State := { s with rxCnt := 0 }

/-- No frame is waiting to be sent (R224, R225). -/
def clearTx (s : State) : State := { s with txLen := 0, txIdx := 0 }

/-- The two exceptions of the wire (R250, R252). -/
inductive ModbusException where
  | illegalFunction
  | illegalDataAddress
  deriving DecidableEq, Repr

/-- The exception code on the wire (R7, R250). -/
def ModbusException.wire : ModbusException → Byte
  | .illegalFunction => 0x01#8
  | .illegalDataAddress => 0x02#8

/-- The outcome an exception is reported as (R30, R250). -/
def ModbusException.outcome : ModbusException → OutcomeCode
  | .illegalFunction => .excIllegalFunction
  | .illegalDataAddress => .excIllegalDataAddress

/-- Raising a Modbus exception, the hardware's only 'trap entry' (R263): the exception frame for the
offending function code is built and sent, nothing is saved and no vector is fetched. There is no return:
the request path is idle again after the last byte (R264). -/
def raiseException (u f : Byte) (e : ModbusException) (s : State) : Result :=
  answer (encodeException u (f ||| 0x80#8) e.wire) e.outcome s

/-- The state a meaning answers, if it answers one. -/
def nextOf : Result → Option State
  | .next s => some s
  | .fault _ => none
  | .refused _ => none

end Sys2Proof.Machine
end

