-- ==== Sys2Proof/Machine/Operands.lean ====
section
/-! DEFINITION. Where operands come from: the request in the receive buffer (R223), the admission of a
request (the checks every request passes, R90, R261), and how a table word is placed for the next step. -/

namespace Sys2Proof.Machine

/-- `rx_buf[0:8]` (R223). -/
def rxBytes (s : State) : List Byte := cellsReadBurst s.rxBuf 0 Config.minFrame

/-- `tx_buf[0:tx_len]` (R25). -/
def txFrame (s : State) : List Byte := cellsReadBurst s.txBuf 0 s.txLen

/-- The request in the receive buffer. -/
def fetchRequest (s : State) : Except DecodeError Instr := decodeReq8 (rxBytes s)

/-- The checks common to all requests, in R261's order: CRC (R133), then unit id (R151). A request that
passes both goes on to `k`. The receive buffer is emptied whatever the result (R223). -/
def admitRequest (u f : Byte) (a n c : Word) (k : State → Result) (s : State) : Result :=
  if verify (requestBody u f a n) c then
    if u = s.cfg.unitId then k (clearRx s)
    else .next (drop .dropUnitIdMismatch (clearRx s))
  else .next (drop .dropCrcMismatch (clearRx s))

/-- Place an encoded instruction where the next step takes its work from (log entry 18): a request in the
receive buffer with time for the step Exec; an output frame in the transmit buffer with the transport
ready; a local-port request at the port. -/
def place (x : Encoded) (s : State) : State :=
  match x with
  | .toHardware B =>
    { s with rxBuf := cellsWriteBurst s.rxBuf 0 B, rxCnt := B.length, phase := .exec,
             inputs := .internal :: s.inputs }
  | .fromHardware B =>
    { s with txBuf := cellsWriteBurst s.txBuf 0 B, txLen := B.length, txIdx := 0, phase := .respond,
             inputs := .txReady :: s.inputs }
  | .port r => { s with inputs := .loc r :: s.inputs }

/-- Place the instruction of an opcode-table word; a width no row has changes nothing. -/
def placeTableWord (nbits w : Nat) (s : State) : State :=
  match tableWord nbits w with
  | some x => place x s
  | none => s

end Sys2Proof.Machine
end

