-- ==== Sys2Proof/Machine/LocalPort.lean ====
section
/-! DEFINITION. The local port's operations (R204, R227): enabled in every phase, touching nothing of the
request path. -/

namespace Sys2Proof.Machine

/-- BANK_READ on the local port (R191, R227). Without success there is no valid data (R94; log entry 21). -/
def execBankRead (start count : Word) (s : State) : Result :=
  match bankRead s.cfg.n s.bank start count with
  | .ok vs => .next (emit (.loc true vs) s)
  | .error .outOfRange => .next (emit (.loc false []) s)

/-- BANK_WRITE on the local port (R194, R227): all or nothing (R195). -/
def execBankWrite (start : Word) (values : List Int) (s : State) : Result :=
  match bankWrite s.cfg.n s.bank start values with
  | .ok x => .next (emit (.loc true []) { s with bank := x })
  | .error .outOfRange => .next (emit (.loc false []) s)

end Sys2Proof.Machine
end

