-- ==== Sys2Proof/Machine/Request.lean ====
section
/-! DEFINITION. The request instructions RHR and ILLFN (spec/42_request_processor.md), and PROCESS and the
body of Exec written out as the spec's pseudocode has them. -/

namespace Sys2Proof.Machine

/-- What an admitted RHR does (R156): read a snapshot of the bank and answer it (R154), or exception 0x02
when the range test fails (R153, R159). -/
def serveRhr (u : Byte) (a n : Word) (s : State) : Result :=
  match bankRead s.cfg.n s.bank a n with
  | .error .outOfRange => raiseException u Config.fcReadHoldingRegisters .illegalDataAddress s
  | .ok vs => answer (encodeResponse u Config.fcReadHoldingRegisters (byteCount n) vs) .okResponse s

/-- RHR (R156): the checks every request passes, then the read. -/
def execRhr (u : Byte) (a n c : Word) (s : State) : Result :=
  admitRequest u Config.fcReadHoldingRegisters a n c (serveRhr u a n) s

/-- ILLFN (R157): any other function code is answered with exception 0x01. The address and count are not
examined, though the trailer covers them. -/
def execIllfn (u f : Byte) (a n c : Word) (s : State) : Result :=
  admitRequest u f a n c (raiseException u f .illegalFunction) s

/-- What PROCESS returns (R150). -/
inductive Processed where
  | silent
  | exceptionFrame (u f e : Byte)
  | responseFrame (u f b : Byte) (vs : List Word)
  deriving DecidableEq, Repr

/-- PROCESS (R150), as the spec writes it: unit id, then function code, then range (R155). -/
def process (cfg : Config) (x : Bank) (req : RequestFrame) : Processed :=
  if req.unitId ≠ cfg.unitId then .silent
  else if req.functionCode ≠ Config.fcReadHoldingRegisters then
    .exceptionFrame req.unitId (req.functionCode ||| 0x80#8) 0x01#8
  else
    match bankRead cfg.n x req.startAddress req.registerCount with
    | .error .outOfRange => .exceptionFrame req.unitId (0x03#8 ||| 0x80#8) 0x02#8
    | .ok vs => .responseFrame req.unitId Config.fcReadHoldingRegisters (byteCount req.registerCount) vs

/-- The body of Exec (R223), as the spec writes it: DECODE, PROCESS, ENCODE. The step does not run this
text: it dispatches on the decoded instruction. That the two agree is an obligation. -/
def execBody (s : State) : State :=
  match decodeFrame (rxBytes s) with
  | .error _ => drop .dropCrcMismatch (clearRx s)
  | .ok req =>
    match process s.cfg s.bank req with
    | .silent => drop .dropUnitIdMismatch (clearRx s)
    | .exceptionFrame u f e =>
      report (if e = 0x01#8 then .excIllegalFunction else .excIllegalDataAddress)
        (loadTx (encodeException u f e) (clearRx s))
    | .responseFrame u f b vs => report .okResponse (loadTx (encodeResponse u f b vs) (clearRx s))

end Sys2Proof.Machine
end

