-- ==== Sys2Proof/Machine/Response.lean ====
section
/-! DEFINITION. The output formats RESP_RHR and RESP_EXC (spec/43_frame_encode.md). Their meaning is the part
of Exec that builds such a frame and loads it for transmission (R170, R171, R223; log entry 11). -/

namespace Sys2Proof.Machine

/-- RESP_RHR (R170, R223): ENCODE_RESPONSE of the unit id, byte count and values, loaded for transmission
with outcome OK_RESPONSE. The trailer is computed, not taken from the operand. -/
def execRespRhr (u b : Byte) (vs : List Word) (s : State) : Result :=
  answer (encodeResponse u Config.fcReadHoldingRegisters b vs) .okResponse s

/-- RESP_EXC (R171, R223): ENCODE_EXCEPTION of the unit id, function code and exception code, loaded for
transmission; the outcome is EXC_ILLEGAL_FUNCTION for code 0x01 and EXC_ILLEGAL_DATA_ADDRESS else. -/
def execRespExc (u f e : Byte) (s : State) : Result :=
  answer (encodeException u f e) (if e = 0x01#8 then .excIllegalFunction else .excIllegalDataAddress) s

end Sys2Proof.Machine
end

