-- ==== Sys2Proof/Machine/Dispatch.lean ====
section
/-! DEFINITION. The dispatch: one arm per constructor of Instr. -/

namespace Sys2Proof.Machine

/-- The meaning of an instruction. -/
def exec (i : Instr) (s : State) : Host.Outcome State Fault Refusal :=
  match i with
  | .rhr u a n c => Sys2Proof.Machine.execRhr u a n c s
  | .illfn u f a n c => Sys2Proof.Machine.execIllfn u f a n c s
  | .respRhr u b vs _ => Sys2Proof.Machine.execRespRhr u b vs s
  | .respExc u f e _ => Sys2Proof.Machine.execRespExc u f e s
  | .bankRead start count => Sys2Proof.Machine.execBankRead start count s
  | .bankWrite start values => Sys2Proof.Machine.execBankWrite start values s

end Sys2Proof.Machine
end

