-- ==== Sys2Proof/Machine/Sequencer.lean ====
section
/-! DEFINITION. The sequencer's steps that inputs cause (spec/45_sequencer.md). Each answers its state
unchanged where the step is not enabled. -/

namespace Sys2Proof.Machine

/-- RxByte (R221): enabled in ACCUM, where `rx_cnt < 8` (R27; log entry 13). -/
def rxByte (b : Byte) (s : State) : State :=
  if s.phase = .accum ∧ s.rxCnt < Config.minFrame then
    transportOk { s with rxBuf := cellsWrite s.rxBuf s.rxCnt b, rxCnt := s.rxCnt + 1,
                         phase := if s.rxCnt + 1 = Config.minFrame then .exec else .accum }
  else s

/-- RxTimeout (R222): a partial frame is discarded and reported; in every other case no effect. -/
def rxTimeout (s : State) : State :=
  if s.phase = .accum ∧ 0 < s.rxCnt then report .dropFrameTooShort (clearRx s) else s

/-- TxByte (R224): enabled in RESPOND. The byte is emitted, and after the last one the frame is finished. A
`tx_idx` beyond the buffer names a byte that does not exist (log entry 12). -/
def txByte (s : State) : Result :=
  if s.phase = .respond then
    if s.txIdx < s.cfg.txMax then
      let t := transportOk (emit (.tx (cellsRead s.txBuf s.txIdx) (decide (s.txIdx + 1 = s.txLen))) s)
      if s.txIdx + 1 = s.txLen then .next (toIdle (clearTx t))
      else .next { t with txIdx := s.txIdx + 1 }
    else .fault (.noSuchTxByte s.txIdx)
  else .next s

/-- XportErr (R225): a partial frame or a response in progress is abandoned; no effect in EXEC, STOPPED and
FATAL. -/
def xportErr (s : State) : State :=
  match s.phase with
  | .accum => transportFailed (clearRx s)
  | .respond => transportFailed (toIdle (clearTx s))
  | .exec => s
  | .stopped => s
  | .fatal => s

/-- Shutdown (R226): latched; in ACCUM the request path stops at once and a partial frame is discarded and
reported. -/
def shutdown (s : State) : State :=
  match s.phase with
  | .accum =>
    let t := { latchStop s with phase := .stopped }
    if 0 < s.rxCnt then report .dropFrameTooShort (clearRx t) else t
  | .exec => latchStop s
  | .respond => latchStop s
  | .stopped => latchStop s
  | .fatal => latchStop s

/-- Reset (R228, R36): every field of the machine takes its reset value; the configuration stays, and so do
the model's own lists of inputs to come and outputs so far (log entry 20). -/
def resetStep (s : State) : State :=
  { State.boot s.cfg with inputs := s.inputs, outputs := s.outputs }

end Sys2Proof.Machine
end

