-- ==== Sys2Proof/Machine/Run.lean ====
section
/-! DEFINITION. What one step does with the event at hand: the internal step Exec, the local port, and the
sequencer's steps. -/

namespace Sys2Proof.Machine

/-- The internal step Exec (R223): enabled in EXEC, where the eight bytes received are decoded and executed.
DECODE is given 8 bytes, so it cannot find them too few (log entry 14). -/
def internal (s : State) : Result :=
  if s.phase = .exec then
    match fetchRequest s with
    | .ok i => exec i s
    | .error _ => .next (drop .dropFrameTooShort (clearRx s))
  else .next s

/-- LocWrite and LocRead (R227): enabled in every phase. -/
def localPort (r : LocRequest) (s : State) : Result :=
  match decodePort r with
  | .error _ => .refused .notPresentable
  | .ok i => if i.wellFormed s.cfg then exec i s else .refused .notPresentable

/-- One event (R220). -/
def runEvent (e : Event) (s : State) : Result :=
  match e with
  | .rxByte b => .next (rxByte b s)
  | .rxTimeout => .next (rxTimeout s)
  | .internal => internal s
  | .txReady => txByte s
  | .xportErr => .next (xportErr s)
  | .shutdown => .next (shutdown s)
  | .loc r => localPort r s
  | .reset => .next (resetStep s)

/-- The next event, or, when no input is left, the internal step if it is enabled (R236; log entry 1). -/
def runNext (s : State) : Result :=
  match s.inputs with
  | [] => internal s
  | e :: es => runEvent e { s with inputs := es }

end Sys2Proof.Machine
end

