-- ==== Sys2Proof/Machine/Step.lean ====
section
/-! DEFINITION. One step of the machine, and the placing of an opcode-table word for the next step. -/

namespace Sys2Proof.Machine

/-- One step (R220). A configuration outside its range is refused (R8; spec/93 I6, I8; log entry 6). -/
def step (s : State) : Host.Outcome State Fault Refusal :=
  if s.cfg.legal then runNext s else .refused .illegalConfiguration

/-- `s` with the instruction of an opcode-table word where the next step takes its work from (log entry
18). -/
def State.withFetchWord (s : State) (nbits w : Nat) : State := placeTableWord nbits w s

end Sys2Proof.Machine
end

