-- ==== Sys2Proof/Machine/Guard.lean ====
section
/-! DEFINITION. The guard at the level of beats (R203): a realisation in which a burst moves one register at
a time under an owner field. It is no part of State (R33); that it refines the atomic operations of
Machine/Ops.lean is an obligation. -/

namespace Sys2Proof.Machine

/-- `guard_owner` (R203 (a)). -/
inductive GuardOwner where
  | free
  | req
  | loc
  deriving DecidableEq, Repr

/-- The bank with its guard: the owner, and where each requester's burst stands. -/
structure GuardState where
  x : Bank
  owner : GuardOwner
  /-- Next register of the REQ burst. -/
  reqAt : Nat
  /-- Registers of the REQ burst still to be read. -/
  reqLeft : Nat
  /-- Values the REQ burst has read, in order. -/
  reqGot : List Word
  /-- Next register of the LOC burst. -/
  locAt : Nat
  /-- Values of a LOC write burst still to be stored. -/
  locLeft : List Word
  /-- Registers of a LOC read burst still to be read. -/
  locReadLeft : Nat
  /-- Values the last LOC read burst has read, in order. -/
  locGot : List Word
  deriving DecidableEq, Repr

/-- FREE after reset (R203 (a)). -/
def GuardState.boot (x : Bank) : GuardState :=
  { x := x, owner := .free, reqAt := 0, reqLeft := 0, reqGot := [], locAt := 0, locLeft := [],
    locReadLeft := 0, locGot := [] }

/-- What happens at the guard in one beat. -/
inductive GuardBeat where
  /-- REQ asks for a read burst. -/
  | grantReq (start count : Nat)
  /-- LOC asks for a write burst. -/
  | grantLoc (start : Nat) (vs : List Word)
  /-- LOC asks for a read burst. -/
  | grantLocRead (start count : Nat)
  /-- REQ's next register. -/
  | beatReq
  /-- LOC's next register. -/
  | beatLoc
  deriving DecidableEq, Repr

/-- One beat. REQ only reads; LOC reads or writes (R204). A grant is given only when the owner is FREE (R203 (b)); the owner keeps the guard for all
beats of its burst and frees it after the last (c); no beat of a non-owner reaches the memory (d). An empty
burst has no beats and leaves the guard free (DESIGN CHOICE, log entry 17). -/
def guardBeat (b : GuardBeat) (g : GuardState) : GuardState :=
  match b with
  | .grantReq start count =>
    if g.owner = .free then
      { g with owner := if count = 0 then .free else .req, reqAt := start, reqLeft := count, reqGot := [] }
    else g
  | .grantLoc start vs =>
    if g.owner = .free then
      { g with owner := if vs.isEmpty then .free else .loc, locAt := start, locLeft := vs }
    else g
  | .grantLocRead start count =>
    if g.owner = .free then
      { g with owner := if count = 0 then .free else .loc, locAt := start, locReadLeft := count, locGot := [] }
    else g
  | .beatReq =>
    if g.owner = .req then
      { g with owner := if g.reqLeft ≤ 1 then .free else .req, reqAt := g.reqAt + 1,
               reqLeft := g.reqLeft - 1, reqGot := g.reqGot ++ [cellsRead g.x g.reqAt] }
    else g
  | .beatLoc =>
    if g.owner = .loc then
      match g.locLeft with
      | [] =>
        { g with owner := if g.locReadLeft ≤ 1 then .free else .loc, locAt := g.locAt + 1,
                 locReadLeft := g.locReadLeft - 1, locGot := g.locGot ++ [cellsRead g.x g.locAt] }
      | v :: vs =>
        { g with x := cellsWrite g.x g.locAt v, owner := if vs.isEmpty then .free else .loc,
                 locAt := g.locAt + 1, locLeft := vs }
    else g

/-- The bank as if the burst in progress had happened at its grant. -/
def GuardState.atomicBank (g : GuardState) : Bank := memWrite g.x g.locAt g.locLeft

/-- What the REQ burst has returned or will return. -/
def GuardState.atomicRead (g : GuardState) : List Word := g.reqGot ++ memRead g.x g.reqAt g.reqLeft

/-- What the last LOC read burst has returned or will return. -/
def GuardState.atomicLocRead (g : GuardState) : List Word := g.locGot ++ memRead g.x g.locAt g.locReadLeft

/-- The owner is the requester whose burst has beats left, and a LOC burst reads or writes, not both. -/
structure GuardState.Inv (g : GuardState) : Prop where
  req : g.owner = .req ↔ g.reqLeft ≠ 0
  loc : g.owner = .loc ↔ g.locLeft ≠ [] ∨ g.locReadLeft ≠ 0
  oneKind : g.locLeft = [] ∨ g.locReadLeft = 0

end Sys2Proof.Machine
end

