-- ==== Sys2Proof/Machine/Refresh.lean ====
section
/-! DEFINITION. What the external Refresh Actor presents at the local port (R206, R207) and the register map
of the reference deployment it follows (R62). Its arithmetic and its period are outside the hardware (R5). -/

namespace Sys2Proof.Machine

/-- The eleven integers of one refresh, already scaled and rounded (R62, R206). -/
structure RefreshFields where
  year : Int
  month : Int
  day : Int
  hour : Int
  minute : Int
  second : Int
  temperature : Int
  humidity : Int
  windSpeed : Int
  windDirection : Int
  rainfall : Int
  deriving DecidableEq, Repr

/-- The values in register order, index 0 first (R62). -/
def RefreshFields.values (f : RefreshFields) : List Int :=
  [f.year, f.month, f.day, f.hour, f.minute, f.second, f.temperature, f.humidity, f.windSpeed,
   f.windDirection, f.rainfall]

/-- The local-port request of a write (R94). -/
def writeRequest (start : Word) (values : List Int) : LocRequest :=
  { op := true, start := start, len := BitVec.ofNat 16 values.length, wdata := values }

/-- The local-port request of a read (R94). -/
def readRequest (start count : Word) : LocRequest :=
  { op := false, start := start, len := count, wdata := [] }

/-- One refresh cycle: one `BANK_WRITE(0, values)`, or nothing when there is no sample (R206, R207). -/
def refreshCycle : Option RefreshFields → List Event
  | some f => [.loc (writeRequest 0#16 f.values)]
  | none => []

end Sys2Proof.Machine
end

