-- ==== Sys2Proof/Machine/Ports.lean ====
section
/-! DEFINITION. The port view of R237: the outputs that follow from the state, what a step presented on the
diagnostic port, and how the inputs of one clock become events. -/

namespace Sys2Proof.Machine

/-- `rx_ready = 1` iff ACCUM (R230). -/
def rxReady (s : State) : Bool := decide (s.phase = .accum)

/-- `tx_valid = 1` iff RESPOND (R230). -/
def txValid (s : State) : Bool := decide (s.phase = .respond)

/-- `tx_data = tx_buf[tx_idx]` (R237). -/
def txData (s : State) : Byte := cellsRead s.txBuf s.txIdx

/-- `tx_last`: `tx_idx = tx_len - 1` (R237), written without subtraction. -/
def txLast (s : State) : Bool := decide (s.txIdx + 1 = s.txLen)

/-- `stopped` (R237). -/
def stopped (s : State) : Bool := decide (s.phase = .stopped)

/-- `fatal` (R237). -/
def fatal (s : State) : Bool := decide (s.phase = .fatal)

/-- `xport_release`: the transport handle is released (R237). -/
def xportRelease (s : State) : Bool := stopped s || fatal s

/-- The bytes sent so far, oldest first, with their `tx_last`. -/
def sentBytes (s : State) : List (Byte × Bool) :=
  s.outputs.reverse.filterMap (fun o => match o with
    | .tx b last => some (b, last)
    | .diag _ => none
    | .loc _ _ => none)

/-- The outcomes produced so far, oldest first: the list R31 speaks of. -/
def outcomes (s : State) : List OutcomeCode :=
  s.outputs.reverse.filterMap (fun o => match o with
    | .tx _ _ => none
    | .diag c => some c
    | .loc _ _ => none)

/-- What was emitted between two states of a run, newest first. -/
def emitted (before after : State) : List Output :=
  after.outputs.take (after.outputs.length - before.outputs.length)

/-- `diag_valid` with `diag_code` for the step between two states (R31). Between two states further apart the
newest outcome is answered: which one the port shows in a clock whose steps produce two is left open by R237,
and this is the model's choice (DESIGN CHOICE, unsafe, log entry 23). `outcomes` keeps every one. -/
def diagPort (before after : State) : Option (BitVec 3) :=
  (emitted before after).findSome? (fun o => match o with
    | .tx _ _ => none
    | .diag c => some c.code
    | .loc _ _ => none)

/-- The inputs sampled in one clock (R237). `rxData` is `rx_data` when `rx_valid` is high; `loc` is the local
port's request when its one step falls in this clock (R94; log entry 22). -/
structure InputCycle where
  rst : Bool
  rxData : Option Byte
  rxTimeout : Bool
  xportErr : Bool
  txReady : Bool
  shutdown : Bool
  loc : Option LocRequest
  deriving DecidableEq, Repr

/-- The events that the inputs of one clock without reset cause from the state at its start, in one order.
RxByte occurs only in a clock with `rx_valid & rx_ready`, TxByte only in one with `tx_valid & tx_ready`
(R237, R230): a byte offered while `rx_ready = 0` is no event of this clock (spec/93 I17). -/
def InputCycle.events (c : InputCycle) (s : State) : List Event :=
  (if rxReady s then (c.rxData.map Event.rxByte).toList else []) ++
  (if c.rxTimeout then [.rxTimeout] else []) ++ (if c.xportErr then [.xportErr] else []) ++
  (if c.txReady && txValid s then [.txReady] else []) ++
  (if c.shutdown then [.shutdown] else []) ++ (c.loc.map Event.loc).toList

/-- The serialisations of one clock's inputs from the state at its start: Reset wins and the others are lost;
otherwise every order (`EVENT_ORDER` is open, R237), with or without the internal step where the clock starts
in EXEC (R220, R236). That Exec does not fall in the clock of the eighth RxByte itself, a latency R293 leaves
free, is the model's choice (DESIGN CHOICE, unsafe, log entry 24). -/
def InputCycle.Admits (c : InputCycle) (s : State) (es : List Event) : Prop :=
  if c.rst then es = [.reset]
  else es.Perm (c.events s) ∨ (s.phase = .exec ∧ es.Perm (.internal :: c.events s))

/-- A run over a number of steps, stopping at the first fault or refusal. -/
def runSteps : Nat → State → Result
  | 0, s => .next s
  | k + 1, s =>
    match step s with
    | .next t => runSteps k t
    | .fault r => .fault r
    | .refused r => .refused r

/-- One clock: some serialisation of its inputs runs, step by step, with nothing left over (R237). -/
def ClockStep (c : InputCycle) (s t : State) : Prop :=
  ∃ es, c.Admits s es ∧ runSteps es.length { s with inputs := es } = .next t

end Sys2Proof.Machine
end

