-- ==== Sys2Proof/Safety.lean ====
section
/-! DEFINITION. What counts as a good state and a safe run: the invariants of R37, quiescence (R236), and
which events may change what. -/

namespace Sys2Proof.Machine

/-- The invariants of the state (R37), with the canonical form of the three stores, the legality of the
configuration, and two facts about `stop_req` that follow from R226 and idle(). -/
structure State.Inv (s : State) : Prop where
  /-- R8. -/
  cfgLegal : s.cfg.legal = true
  /-- (a): the bank holds N registers of 16 bits. -/
  bankWf : Bank.wf s.cfg.n s.bank = true
  /-- The receive buffer has 8 bytes (R24). -/
  rxWf : Memory.wf 8 s.rxBuf = true
  /-- The transmit buffer has TXMAX bytes (R25). -/
  txWf : Memory.wf s.cfg.txMax s.txBuf = true
  /-- (b). -/
  rxCntLe : s.rxCnt ≤ 8
  /-- (b). -/
  rxFull : s.rxCnt = 8 ↔ s.phase = .exec
  /-- (c). -/
  txOrder : s.txIdx ≤ s.txLen ∧ s.txLen ≤ s.cfg.txMax
  /-- (c). -/
  txWaiting : 0 < s.txLen ↔ s.phase = .respond
  /-- (c). -/
  txLeft : s.phase = .respond → s.txIdx < s.txLen
  /-- (d). -/
  rxEmpty : (s.phase = .respond ∨ s.phase = .stopped ∨ s.phase = .fatal) → s.rxCnt = 0
  /-- A frame has at least 5 bytes (R172). -/
  txFrameLen : 0 < s.txLen → 5 ≤ s.txLen
  /-- (e). -/
  txFrameValid : 0 < s.txLen →
    crc16 (cellsReadBurst s.txBuf 0 (s.txLen - 2)) =
      u16le (cellsRead s.txBuf (s.txLen - 2)) (cellsRead s.txBuf (s.txLen - 1))
  /-- (f). -/
  xfailLe : s.xfail ≤ 3
  /-- (f). -/
  xfailFatal : s.xfail = 3 ↔ s.phase = .fatal
  /-- Waiting for bytes, no stop has been requested (R226, idle()). -/
  accumRuns : s.phase = .accum → s.stopReq = false
  /-- Stopped, a stop has been requested (R226, idle()). -/
  stoppedAsked : s.phase = .stopped → s.stopReq = true

/-- No internal progress is pending (R236). -/
def Quiescent (s : State) : Prop := s.phase = .accum ∨ s.phase = .stopped ∨ s.phase = .fatal

/-- The events that may change the bank: a local-port write and Reset (R23). -/
def Event.mayChangeBank : Event → Bool
  | .loc r => r.op
  | .reset => true
  | .rxByte _ => false
  | .rxTimeout => false
  | .internal => false
  | .txReady => false
  | .xportErr => false
  | .shutdown => false

/-- What executing a request leaves as it was, when the frame loaded for transmission has `len` bytes (0 if
none is loaded): the bank, the configuration, the receive buffer's bytes, `xfail`, `stop_req` and every byte
of the transmit buffer beyond the frame (R158, R263). -/
structure KeptByRequest (len : Nat) (s t : State) : Prop where
  cfg : t.cfg = s.cfg
  bank : t.bank = s.bank
  rxBuf : t.rxBuf = s.rxBuf
  xfail : t.xfail = s.xfail
  stopReq : t.stopReq = s.stopReq
  inputs : t.inputs = s.inputs
  txBeyond : ∀ i, len ≤ i → cellsRead t.txBuf i = cellsRead s.txBuf i

/-- The data bytes of `n` registers from `a` on, in wire order (R82, R156). -/
def registerBytes (x : Bank) (a n : Nat) : List Byte :=
  (List.range n).flatMap (fun k => be2 (cellsRead x (a + k)))

/-- Two states that differ at most in what no rule reads: `last_outcome` (R30), the buffers' bytes beyond
`rx_cnt` and `tx_len` (R24, R25), and the model's own record of outputs. -/
structure SameButUnread (s t : State) : Prop where
  cfg : s.cfg = t.cfg
  bank : s.bank = t.bank
  phase : s.phase = t.phase
  rxCnt : s.rxCnt = t.rxCnt
  rxBytes : ∀ i, i < s.rxCnt → cellsRead s.rxBuf i = cellsRead t.rxBuf i
  txLen : s.txLen = t.txLen
  txBytes : ∀ i, i < s.txLen → cellsRead s.txBuf i = cellsRead t.txBuf i
  txIdx : s.txIdx = t.txIdx
  xfail : s.xfail = t.xfail
  stopReq : s.stopReq = t.stopReq
  inputs : s.inputs = t.inputs

end Sys2Proof.Machine
end

