-- ==== Sys2Proof/Certificates/Slice0/Obligations.lean ====
section
/-! DEFINITION. The statements for the provers. Each docstring names the rule it formalises, or the spec's
decision (D<n> of spec/92_eei_decisions.md), inference or log entry it rests on. -/

open Sys2Proof Sys2Proof.Machine

/-! ### CRC-16 (spec/40_crc16.md). The algorithm is the spec's general knowledge G1 (log entry 15). -/

/-- R112: the printed table is the eight shifts of every byte, and the two forms compute the same function. -/
def Obligations.CrcTableFormAgreesWithBitSerial : Prop :=
  (∀ i : Nat, i < 256 → crcTable.getD i 0#16 = crcShifts 8 (BitVec.ofNat 16 i)) ∧
  ∀ B : List Byte, crc16Table B = crc16 B

/-- R115, the spec's own inference: a sequence followed by its trailer has residue zero, and a received
trailer verifies exactly when the whole has residue zero. -/
def Obligations.CrcResidueLaw : Prop :=
  (∀ P : List Byte, crc16 (P ++ [lo8 (crc16 P), hi8 (crc16 P)]) = 0#16) ∧
  ∀ (P : List Byte) (c : Word), verify P c = true ↔ crc16 (P ++ [lo8 c, hi8 c]) = 0#16

/-- R117: a sequence verifies against its own CRC, and flipping any one bit of the sequence, or of the
trailer, makes verification fail. -/
def Obligations.CrcDetectsEverySingleBitFlip : Prop :=
  (∀ b : List Byte, verify b (crc16 b) = true) ∧
  (∀ (P Q : List Byte) (x : Byte) (k : Nat), k < 8 →
    verify (P ++ [x ^^^ (1#8 <<< k)] ++ Q) (crc16 (P ++ [x] ++ Q)) = false) ∧
  (∀ (b : List Byte) (k : Nat), k < 16 → verify b (crc16 b ^^^ (1#16 <<< k)) = false)

/-! ### Encodings (spec/30_encoding.md, spec/41_frame_decode.md, spec/43_frame_encode.md) -/

/-- A few words written out in the spec decode to what they stand for: the frames of test vectors V1, V4, V14
and V3, R191's worked example BANK_READ(9, 2) and V12's BANK_WRITE(6, [-35, 70000]) as the port signals of R94
(decision D1). The trailers are CRC values the spec derives (log entry 15). -/
def Obligations.WordsOfTheSpecDecode : Prop :=
  decode (.toHardware [0x01#8, 0x03#8, 0x00#8, 0x00#8, 0x00#8, 0x0B#8, 0x04#8, 0x0D#8]) =
      .ok (.rhr 1#8 0#16 11#16 0x0D04#16) ∧
  decode (.toHardware [0x01#8, 0x06#8, 0x00#8, 0x00#8, 0x00#8, 0x01#8, 0x48#8, 0x0A#8]) =
      .ok (.illfn 1#8 6#8 0#16 1#16 0x0A48#16) ∧
  decode (.fromHardware [0x01#8, 0x03#8, 0x04#8, 0x00#8, 0xCD#8, 0x02#8, 0x6D#8, 0xAB#8, 0x41#8]) =
      .ok (.respRhr 1#8 4#8 [205#16, 621#16] 0x41AB#16) ∧
  decode (.fromHardware [0x01#8, 0x83#8, 0x02#8, 0xC0#8, 0xF1#8]) =
      .ok (.respExc 1#8 0x83#8 2#8 0xF1C0#16) ∧
  decode (.port { op := false, start := 9#16, len := 2#16, wdata := [] }) = .ok (.bankRead 9#16 2#16) ∧
  decode (.port { op := true, start := 6#16, len := 2#16, wdata := [-35, 70000] }) =
      .ok (.bankWrite 6#16 [-35, 70000])

/-- Decode and encode agree on every well-formed instruction of every legal configuration: requests, both
output formats (whose fields are recovered by position, R176) and the local port. -/
def Obligations.DecodeOfEncodeIsIdentity : Prop :=
  ∀ (cfg : Config) (i : Instr), cfg.legal = true → i.wellFormed cfg = true → decode (encode i) = .ok i

/-- The formats and operands of spec/30_encoding.md sections 1 to 3: every eight bytes are one request frame;
byte 1 alone selects RHR; the operands are unsigned, big-endian, and the received CRC little-endian; and
encoding gives the eight bytes back. That a frame with a wrong trailer also decodes to a request, whose meaning
then drops it, is the model's choice (log entry 10). -/
def Obligations.EveryEightBytesAreOneRequest : Prop :=
  ∀ b0 b1 b2 b3 b4 b5 b6 b7 : Byte, ∃ (a n c : Word) (i : Instr),
    a.toNat = b2.toNat * 256 + b3.toNat ∧ n.toNat = b4.toNat * 256 + b5.toNat ∧
    c.toNat = b7.toNat * 256 + b6.toNat ∧
    i = (if b1 = 0x03#8 then .rhr b0 a n c else .illfn b0 b1 a n c) ∧
    decodeReq8 [b0, b1, b2, b3, b4, b5, b6, b7] = .ok i ∧
    encode i = .toHardware [b0, b1, b2, b3, b4, b5, b6, b7]

/-- DECODE: short sequences fail first, whatever they hold (R131, R138); then a wrong trailer fails (R133);
else the four fields are the first six bytes, and bytes between them and the trailer are covered by the CRC
and ignored (R136, decision D25). -/
def Obligations.DecodeChecksLengthThenCrc : Prop :=
  (∀ B : List Byte, B.length < 8 → decodeFrame B = .error .frameTooShort) ∧
  (∀ (body : List Byte) (c : Word), 6 ≤ body.length → crc16 body ≠ c →
    decodeFrame (body ++ [lo8 c, hi8 c]) = .error .crcMismatch) ∧
  (∀ (u f : Byte) (a n : Word) (mid : List Byte),
    decodeFrame (withTrailer (requestBody u f a n ++ mid)) =
      .ok { unitId := u, functionCode := f, startAddress := a, registerCount := n })

/-- R174, the spec's own inference: every encoded frame validates and has residue zero. -/
def Obligations.EncodedFramesValidate : Prop :=
  ∀ F : List Byte,
    ((∃ u f b vs, F = encodeResponse u f b vs) ∨ (∃ u f e, F = encodeException u f e)) →
    5 ≤ F.length ∧
    verify (F.take (F.length - 2)) (u16le (F.getD (F.length - 2) 0#8) (F.getD (F.length - 1) 0#8)) = true ∧
    crc16 F = 0#16

/-- R176, the spec's own inference: the fields of an encoded frame stand at their positions, and encoding is
injective on its domain. -/
def Obligations.EncodedFieldsStandAtTheirPositions : Prop :=
  (∀ (u f b : Byte) (vs : List Word), b.toNat = 2 * vs.length →
    (encodeResponse u f b vs).getD 0 0#8 = u ∧ (encodeResponse u f b vs).getD 1 0#8 = f ∧
    (encodeResponse u f b vs).getD 2 0#8 = b ∧
    ∀ k, k < b.toNat / 2 →
      u16be ((encodeResponse u f b vs).getD (3 + 2 * k) 0#8) ((encodeResponse u f b vs).getD (4 + 2 * k) 0#8) =
        vs.getD k 0#16) ∧
  (∀ u f e : Byte, (encodeException u f e).getD 0 0#8 = u ∧
    (encodeException u f e).getD 1 0#8 = f ||| 0x80#8 ∧ (encodeException u f e).getD 2 0#8 = e) ∧
  (∀ (u f b u' f' b' : Byte) (vs vs' : List Word), b.toNat = 2 * vs.length → b'.toNat = 2 * vs'.length →
    encodeResponse u f b vs = encodeResponse u' f' b' vs' → u = u' ∧ f = f' ∧ b = b' ∧ vs = vs') ∧
  (∀ u f e u' f' e' : Byte, encodeException u f e = encodeException u' f' e' →
    u = u' ∧ f ||| 0x80#8 = f' ||| 0x80#8 ∧ e = e')

/-! ### The request instructions (spec/42_request_processor.md) -/

/-- R154: an admitted RHR in range completes with the success response: unit id, function code 3, byte count
2n and the n registers from `a` on, ascending; outcome OK_RESPONSE. The loaded frame replaces the transmit
buffer's first `5 + 2n` bytes. -/
def Obligations.RhrInRangeAnswersTheRegisters : Prop :=
  ∀ (s : State) (u : Byte) (a n c : Word),
    s.cfg.legal = true → Memory.wf s.cfg.txMax s.txBuf = true →
    verify (requestBody u 0x03#8 a n) c = true → u = s.cfg.unitId →
    n ≠ 0#16 → a.toNat + n.toNat ≤ s.cfg.n →
    ∃ t, exec (.rhr u a n c) s = .next t ∧
      txFrame t =
        withTrailer ([u, 0x03#8, BitVec.ofNat 8 (2 * n.toNat)] ++ registerBytes s.bank a.toNat n.toNat) ∧
      2 * n.toNat < 256 ∧ t.txLen = 5 + 2 * n.toNat ∧ t.txIdx = 0 ∧ t.rxCnt = 0 ∧ t.phase = .respond ∧
      t.lastOutcome = .okResponse ∧ t.outputs = .diag .okResponse :: s.outputs

/-- R153: an admitted RHR whose count is zero or whose range exceeds N, the sum taken without wrapping,
completes with exception 0x02: function byte 0x83, outcome EXC_ILLEGAL_DATA_ADDRESS. -/
def Obligations.RhrOutOfRangeAnswersIllegalDataAddress : Prop :=
  ∀ (s : State) (u : Byte) (a n c : Word),
    Memory.wf s.cfg.txMax s.txBuf = true →
    verify (requestBody u 0x03#8 a n) c = true → u = s.cfg.unitId →
    (n = 0#16 ∨ s.cfg.n < a.toNat + n.toNat) →
    ∃ t, exec (.rhr u a n c) s = .next t ∧
      txFrame t = withTrailer [u, 0x83#8, 0x02#8] ∧ t.txLen = 5 ∧ t.txIdx = 0 ∧ t.rxCnt = 0 ∧
      t.phase = .respond ∧ t.lastOutcome = .excIllegalDataAddress ∧
      t.outputs = .diag .excIllegalDataAddress :: s.outputs

/-- R152: an admitted request of any other function code completes with exception 0x01, the function byte
being the code with bit 7 set; the bank is not read: the answer is the same whatever the bank holds. -/
def Obligations.IllfnAnswersIllegalFunction : Prop :=
  ∀ (s : State) (u f : Byte) (a n c : Word),
    Memory.wf s.cfg.txMax s.txBuf = true →
    verify (requestBody u f a n) c = true → u = s.cfg.unitId → f ≠ 0x03#8 →
    ∃ t, exec (.illfn u f a n c) s = .next t ∧
      txFrame t = withTrailer [u, f ||| 0x80#8, 0x01#8] ∧ t.txLen = 5 ∧ t.txIdx = 0 ∧ t.rxCnt = 0 ∧
      t.phase = .respond ∧ t.lastOutcome = .excIllegalFunction ∧
      t.outputs = .diag .excIllegalFunction :: s.outputs ∧
      ∀ x : Bank, exec (.illfn u f a n c) { s with bank := x } = .next { t with bank := x }

/-- A request whose trailer does not verify is dropped without an answer, whatever its unit id (R133); one
that verifies but is for another unit is dropped without an answer, whatever its function code and range
(R151, decision D7). Nothing but `rx_cnt`, `phase` and the outcome changes (R263). -/
def Obligations.UnadmittedRequestsAreDropped : Prop :=
  ∀ (s : State) (u f : Byte) (a n c : Word) (i : Instr),
    (i = .rhr u a n c ∧ f = 0x03#8 ∨ i = .illfn u f a n c) →
    (verify (requestBody u f a n) c = false →
      exec i s = .next { s with rxCnt := 0, phase := if s.stopReq then .stopped else .accum,
                                lastOutcome := .dropCrcMismatch,
                                outputs := .diag .dropCrcMismatch :: s.outputs }) ∧
    (verify (requestBody u f a n) c = true → u ≠ s.cfg.unitId →
      exec i s = .next { s with rxCnt := 0, phase := if s.stopReq then .stopped else .accum,
                                lastOutcome := .dropUnitIdMismatch,
                                outputs := .diag .dropUnitIdMismatch :: s.outputs })

/-- The frame of RHR and ILLFN (R158, R263): the bank, the configuration, the receive buffer's bytes,
`xfail`, `stop_req` and every byte of the transmit buffer beyond the frame loaded are unchanged. -/
def Obligations.RequestsKeepEverythingElse : Prop :=
  ∀ (s t : State) (u f : Byte) (a n c : Word),
    (exec (.rhr u a n c) s = .next t →
      KeptByRequest
        (if verify (requestBody u 0x03#8 a n) c = true ∧ u = s.cfg.unitId then
          (if n = 0#16 ∨ s.cfg.n < a.toNat + n.toNat then 5 else 5 + 2 * n.toNat) else 0) s t) ∧
    (exec (.illfn u f a n c) s = .next t →
      KeptByRequest (if verify (requestBody u f a n) c = true ∧ u = s.cfg.unitId then 5 else 0) s t)

/-- R261's order of outcomes (its place for the unit id is decision D7): Exec reports CrcMismatch, else
UnitIdMismatch, else IllegalFunction, else IllegalDataAddress, else success. -/
def Obligations.ExecReportsTheFirstOutcomeInOrder : Prop :=
  ∀ s : State, s.cfg.legal = true → s.phase = .exec → s.inputs.head?.getD .internal = .internal →
    ∃ t, step s = .next t ∧
      t.lastOutcome =
        (if verify (cellsReadBurst s.rxBuf 0 6) (u16le (cellsRead s.rxBuf 6) (cellsRead s.rxBuf 7)) = false
          then .dropCrcMismatch
        else if cellsRead s.rxBuf 0 ≠ s.cfg.unitId then .dropUnitIdMismatch
        else if cellsRead s.rxBuf 1 ≠ 0x03#8 then .excIllegalFunction
        else if (cellsRead s.rxBuf 4).toNat * 256 + (cellsRead s.rxBuf 5).toNat = 0 ∨
            s.cfg.n < (cellsRead s.rxBuf 2).toNat * 256 + (cellsRead s.rxBuf 3).toNat +
              ((cellsRead s.rxBuf 4).toNat * 256 + (cellsRead s.rxBuf 5).toNat) then .excIllegalDataAddress
        else .okResponse)

/-! ### The output formats (spec/43_frame_encode.md). That their meaning is the encode-and-load part of Exec
is DEDUCED (log entry 11). -/

/-- RESP_RHR completes whenever its frame fits: the frame of R170 is loaded for transmission, every byte
beyond it and every other field is unchanged. -/
def Obligations.RespRhrLoadsItsFrame : Prop :=
  ∀ (s : State) (u b : Byte) (vs : List Word) (c : Word),
    Memory.wf s.cfg.txMax s.txBuf = true → vs.length ≤ s.cfg.n →
    ∃ t, exec (.respRhr u b vs c) s = .next t ∧
      txFrame t = withTrailer ([u, 0x03#8, b] ++ vs.flatMap (fun v => [hi8 v, lo8 v])) ∧
      (∀ i, 5 + 2 * vs.length ≤ i → cellsRead t.txBuf i = cellsRead s.txBuf i) ∧
      t = { s with txBuf := t.txBuf, txLen := 5 + 2 * vs.length, txIdx := 0, phase := .respond,
                   lastOutcome := .okResponse, outputs := .diag .okResponse :: s.outputs }

/-- RESP_EXC completes: the frame of R171 is loaded for transmission, every byte beyond it and every other
field is unchanged. -/
def Obligations.RespExcLoadsItsFrame : Prop :=
  ∀ (s : State) (u f e : Byte) (c : Word),
    Memory.wf s.cfg.txMax s.txBuf = true →
    ∃ t o, exec (.respExc u f e c) s = .next t ∧
      o = (if e = 0x01#8 then .excIllegalFunction else .excIllegalDataAddress) ∧
      txFrame t = withTrailer [u, f ||| 0x80#8, e] ∧
      (∀ i, 5 ≤ i → cellsRead t.txBuf i = cellsRead s.txBuf i) ∧
      t = { s with txBuf := t.txBuf, txLen := 5, txIdx := 0, phase := .respond, lastOutcome := o,
                   outputs := .diag o :: s.outputs }

/-- What a well-formed output instruction loads is its own encoding, trailer included. -/
def Obligations.WellFormedOutputIsLoadedAsEncoded : Prop :=
  ∀ (s t : State) (i : Instr) (F : List Byte),
    Memory.wf s.cfg.txMax s.txBuf = true → i.wellFormed s.cfg = true → encode i = .fromHardware F →
    exec i s = .next t → txFrame t = F

/-- RESP_RHR with more values than its frame has room for stops by name (log entry 12): the frame would
reach a byte of the transmit buffer that does not exist (R50). -/
def Obligations.RespRhrTooLongStops : Prop :=
  ∀ (s : State) (u b : Byte) (vs : List Word) (c : Word), s.cfg.n < vs.length →
    exec (.respRhr u b vs c) s = .fault (.noSuchTxByte (2 * s.cfg.n + 5))

/-- The request instructions run the output instructions (R156, R157, R223): an admitted RHR in range is
RESP_RHR of the registers read, out of range it is RESP_EXC of code 0x02, and an admitted ILLFN is RESP_EXC
of code 0x01, each after the receive buffer is emptied. -/
def Obligations.RequestsRunTheOutputFormats : Prop :=
  ∀ (s : State) (u f : Byte) (a n c c' : Word), u = s.cfg.unitId →
    (verify (requestBody u 0x03#8 a n) c = true → n ≠ 0#16 → a.toNat + n.toNat ≤ s.cfg.n →
      exec (.rhr u a n c) s =
        exec (.respRhr u (BitVec.ofNat 8 (2 * n.toNat)) (memRead s.bank a.toNat n.toNat) c')
          { s with rxCnt := 0 }) ∧
    (verify (requestBody u 0x03#8 a n) c = true → (n = 0#16 ∨ s.cfg.n < a.toNat + n.toNat) →
      exec (.rhr u a n c) s = exec (.respExc u 0x83#8 0x02#8 c') { s with rxCnt := 0 }) ∧
    (verify (requestBody u f a n) c = true →
      exec (.illfn u f a n c) s = exec (.respExc u (f ||| 0x80#8) 0x01#8 c') { s with rxCnt := 0 })

/-! ### The local port and the guard (spec/44_register_bank_guard.md) -/

/-- R191: BANK_READ fails exactly when the count is zero or the range exceeds N; otherwise it returns the
consecutive registers. Either way the state is unchanged but for the port's answer. -/
def Obligations.BankReadReturnsTheBurst : Prop :=
  ∀ (s : State) (start count : Word),
    ((count = 0#16 ∨ s.cfg.n < start.toNat + count.toNat) →
      exec (.bankRead start count) s = .next { s with outputs := .loc false [] :: s.outputs }) ∧
    (count ≠ 0#16 → start.toNat + count.toNat ≤ s.cfg.n →
      exec (.bankRead start count) s =
        .next { s with outputs := .loc true ((List.range count.toNat).map
                                    (fun k => cellsRead s.bank (start.toNat + k))) :: s.outputs })

/-- R209's boundary table of BANK_READ, for every legal N. -/
def Obligations.BankReadBoundaryTable : Prop :=
  ∀ (N : Nat) (x : Bank), 1 ≤ N → N ≤ 127 →
    bankRead N x 0#16 (BitVec.ofNat 16 N) = .ok (memRead x 0 N) ∧
    bankRead N x (BitVec.ofNat 16 (N - 1)) 1#16 = .ok [cellsRead x (N - 1)] ∧
    bankRead N x (BitVec.ofNat 16 (N - 1)) 2#16 = .error .outOfRange ∧
    bankRead N x (BitVec.ofNat 16 N) 1#16 = .error .outOfRange ∧
    bankRead N x 0#16 (BitVec.ofNat 16 (N + 1)) = .error .outOfRange ∧
    bankRead N x 0#16 0#16 = .error .outOfRange ∧
    bankRead N x (BitVec.ofNat 16 N) 0#16 = .error .outOfRange ∧
    bankRead N x 65535#16 1#16 = .error .outOfRange ∧
    bankRead N x 65535#16 2#16 = .error .outOfRange ∧
    bankRead N x 1#16 65535#16 = .error .outOfRange ∧
    bankRead N x 65535#16 65535#16 = .error .outOfRange

/-- R194: BANK_WRITE in range stores each value clipped to 0..65535 at consecutive registers and leaves every
other register as it was; out of range it fails and writes nothing, as R194's own text has it (R195 gives
the reason, decision D14). An empty write (R198) is one of its cases. Nothing else changes but the port's
answer. -/
def Obligations.BankWriteStoresClippedValues : Prop :=
  ∀ (s : State) (start : Word) (values : List Int),
    Bank.wf s.cfg.n s.bank = true →
    (s.cfg.n < start.toNat + values.length →
      exec (.bankWrite start values) s = .next { s with outputs := .loc false [] :: s.outputs }) ∧
    (start.toNat + values.length ≤ s.cfg.n →
      ∃ x, exec (.bankWrite start values) s =
          .next { s with bank := x, outputs := .loc true [] :: s.outputs } ∧
        Bank.wf s.cfg.n x = true ∧
        (∀ k, k < values.length →
          ((cellsRead x (start.toNat + k)).toNat : Int) = max 0 (min (values.getD k 0) 65535)) ∧
        (∀ i, i < start.toNat ∨ start.toNat + values.length ≤ i → cellsRead x i = cellsRead s.bank i))

/-- R227: a local-port request performs BANK_WRITE or BANK_READ and returns its result, in every phase; it
touches only the bank, and neither reads nor writes any field of the request path: its answer and the bank
after it are the same whatever those fields hold. -/
def Obligations.LocalPortTouchesOnlyTheBank : Prop :=
  ∀ (s : State) (r : LocRequest) (i : Instr) (es : List Event),
    s.cfg.legal = true → s.inputs = .loc r :: es → decodePort r = .ok i → i.wellFormed s.cfg = true →
    ∃ (x : Bank) (ok : Bool) (rdata : List Word),
      (match i with
        | .bankWrite start values =>
          bankWrite s.cfg.n s.bank start values = .ok x ∧ ok = true ∧ rdata = [] ∨
          bankWrite s.cfg.n s.bank start values = .error .outOfRange ∧ x = s.bank ∧ ok = false ∧ rdata = []
        | .bankRead start count =>
          x = s.bank ∧ (bankRead s.cfg.n s.bank start count = .ok rdata ∧ ok = true ∨
            bankRead s.cfg.n s.bank start count = .error .outOfRange ∧ ok = false ∧ rdata = [])
        | _ => False) ∧
      ∀ s' : State, s'.cfg = s.cfg → s'.bank = s.bank → s'.inputs = s.inputs →
        step s' = .next { s' with bank := x, inputs := es, outputs := .loc ok rdata :: s'.outputs }

/-- Old or new, never torn (R66, R200, R289): a request waiting in EXEC and a write race; in either order the
answer holds the registers all before or all after the write, and the bank ends the same. -/
def Obligations.RacingReadIsOldOrNew : Prop :=
  ∀ (s : State) (a n start : Word) (values : List Int) (c : Word),
    s.Inv → s.phase = .exec → fetchRequest s = .ok (.rhr s.cfg.unitId a n c) →
    verify (requestBody s.cfg.unitId 0x03#8 a n) c = true → n ≠ 0#16 → a.toNat + n.toNat ≤ s.cfg.n →
    start.toNat + values.length ≤ s.cfg.n → (Instr.bankWrite start values).wellFormed s.cfg = true →
    ∃ (w : Bank) (t t' : State), bankWrite s.cfg.n s.bank start values = .ok w ∧
      runSteps 2 { s with inputs := [.internal, .loc (writeRequest start values)] } = .next t ∧
      runSteps 2 { s with inputs := [.loc (writeRequest start values), .internal] } = .next t' ∧
      t.bank = w ∧ t'.bank = w ∧
      txFrame t = withTrailer ([s.cfg.unitId, 0x03#8, byteCount n] ++ registerBytes s.bank a.toNat n.toNat) ∧
      txFrame t' = withTrailer ([s.cfg.unitId, 0x03#8, byteCount n] ++ registerBytes w a.toNat n.toNat)

/-- The reference refresh (R206, R62): one cycle with a sample writes registers 0 to 10 in the order of the
register map, clipped, and leaves the others; with N < 11 it changes no register; without a sample nothing is
presented at all (R207). -/
def Obligations.RefreshWritesElevenRegisters : Prop :=
  refreshCycle none = [] ∧
  ∀ (s : State) (f : RefreshFields) (es : List Event),
    s.cfg.legal = true → Bank.wf s.cfg.n s.bank = true → (∀ v ∈ f.values, sintHolds s.cfg.wIn v = true) →
    s.inputs = refreshCycle (some f) ++ es →
    ∃ t, step s = .next t ∧ t.inputs = es ∧
      (11 ≤ s.cfg.n →
        (∀ k, k < 11 → ((cellsRead t.bank k).toNat : Int) = max 0 (min (f.values.getD k 0) 65535)) ∧
        (∀ k, 11 ≤ k → cellsRead t.bank k = cellsRead s.bank k)) ∧
      (s.cfg.n < 11 → t.bank = s.bank)

/-- The beat-level guard refines the atomic operations (R203, decision D15; empty bursts: log entry 17): beat
by beat, the bank as if the burst in progress had happened at its grant changes only when a write is granted,
and then by the whole write; what a read burst of either requester returns is the snapshot at its grant; and
while the guard is free those are the bank itself and the values read. -/
def Obligations.BeatLevelGuardRefinesAtomicOperations : Prop :=
  (∀ x : Bank, (GuardState.boot x).Inv) ∧
  ∀ (g : GuardState) (b : GuardBeat), g.Inv →
    (guardBeat b g).Inv ∧
    (guardBeat b g).atomicBank =
      (match b with
        | .grantLoc start vs => if g.owner = .free then memWrite g.atomicBank start vs else g.atomicBank
        | .grantReq _ _ => g.atomicBank
        | .grantLocRead _ _ => g.atomicBank
        | .beatReq => g.atomicBank
        | .beatLoc => g.atomicBank) ∧
    (guardBeat b g).atomicRead =
      (match b with
        | .grantReq start count => if g.owner = .free then memRead g.atomicBank start count else g.atomicRead
        | .grantLoc _ _ => g.atomicRead
        | .grantLocRead _ _ => g.atomicRead
        | .beatReq => g.atomicRead
        | .beatLoc => g.atomicRead) ∧
    (guardBeat b g).atomicLocRead =
      (match b with
        | .grantLocRead start count =>
          if g.owner = .free then memRead g.atomicBank start count else g.atomicLocRead
        | .grantReq _ _ => g.atomicLocRead
        | .grantLoc _ _ => g.atomicLocRead
        | .beatReq => g.atomicLocRead
        | .beatLoc => g.atomicLocRead) ∧
    (g.owner = .free → g.x = g.atomicBank ∧ g.reqGot = g.atomicRead ∧ g.locGot = g.atomicLocRead)

/-! ### The sequencer's steps (spec/45_sequencer.md) -/

/-- When the head of the inputs gives the internal step its time, or no input is left, a step in EXEC is exec
of the request decoded from the receive buffer; when it is a local-port request that can be presented, a step
is exec of the instruction decoded from the port's signals. The event is consumed; nothing else is added. -/
def Obligations.StepRunsTheDecodedInstruction : Prop :=
  ∀ (s : State) (i : Instr), s.cfg.legal = true →
    (s.phase = .exec → s.inputs = [] → decodeReq8 (rxBytes s) = .ok i → step s = exec i s) ∧
    (∀ es, s.phase = .exec → s.inputs = .internal :: es → decodeReq8 (rxBytes s) = .ok i →
      step s = exec i { s with inputs := es }) ∧
    (∀ r es, s.inputs = .loc r :: es → decodePort r = .ok i → i.wellFormed s.cfg = true →
      step s = exec i { s with inputs := es })

/-- Exec is DECODE, then PROCESS, then ENCODE, as R223 writes it out (its discarding of dropped bytes is
decision D5): running the decoded instruction gives the state of the spec's own text. -/
def Obligations.ExecIsDecodeProcessEncode : Prop :=
  ∀ s : State, s.cfg.legal = true → s.phase = .exec →
    (s.inputs = [] → step s = .next (execBody s)) ∧
    (∀ es, s.inputs = .internal :: es → step s = .next (execBody { s with inputs := es }))

/-- RxByte (R221, decision D3): in ACCUM with fewer than 8 bytes the byte is stored at `rx_cnt`, `xfail` is
cleared, and the eighth byte leads to EXEC; in every other phase no byte is accepted (decision D6). -/
def Obligations.RxByteAccumulates : Prop :=
  ∀ (s : State) (b : Byte) (es : List Event), s.cfg.legal = true → s.inputs = .rxByte b :: es →
    (s.phase = .accum → s.rxCnt < 8 → Memory.wf 8 s.rxBuf = true →
      ∃ m : Memory, step s = .next { s with inputs := es, rxBuf := m, rxCnt := s.rxCnt + 1, xfail := 0,
                                            phase := if s.rxCnt + 1 = 8 then .exec else .accum } ∧
        cellsRead m s.rxCnt = b ∧ ∀ i, i ≠ s.rxCnt → cellsRead m i = cellsRead s.rxBuf i) ∧
    (s.phase ≠ .accum → step s = .next { s with inputs := es })

/-- RxTimeout (R222, decision D4): a partial frame is discarded with outcome DROP_FRAME_TOO_SHORT; in every
other case no effect. -/
def Obligations.RxTimeoutDiscardsAPartialFrame : Prop :=
  ∀ (s : State) (es : List Event), s.cfg.legal = true → s.inputs = .rxTimeout :: es →
    (s.phase = .accum → 0 < s.rxCnt →
      step s = .next { s with inputs := es, rxCnt := 0, lastOutcome := .dropFrameTooShort,
                              outputs := .diag .dropFrameTooShort :: s.outputs }) ∧
    (¬ (s.phase = .accum ∧ 0 < s.rxCnt) → step s = .next { s with inputs := es })

/-- TxByte (R224): in RESPOND the byte at `tx_idx` is emitted with its `last` mark, `xfail` is cleared, and
after the last byte the frame is finished; in every other phase nothing is sent, and the event passes without a
step (log entry 2). What clears `xfail` is decision D17. -/
def Obligations.TxByteSendsInOrder : Prop :=
  ∀ (s : State) (es : List Event), s.cfg.legal = true → s.inputs = .txReady :: es →
    (s.phase = .respond → s.txIdx < s.txLen → s.txLen ≤ s.cfg.txMax →
      step s =
        (if s.txIdx + 1 = s.txLen then
          .next { s with inputs := es, xfail := 0, txLen := 0, txIdx := 0,
                         phase := if s.stopReq then .stopped else .accum,
                         outputs := .tx (cellsRead s.txBuf s.txIdx) true :: s.outputs }
        else
          .next { s with inputs := es, xfail := 0, txIdx := s.txIdx + 1,
                         outputs := .tx (cellsRead s.txBuf s.txIdx) false :: s.outputs })) ∧
    (s.phase ≠ .respond → step s = .next { s with inputs := es })

/-- XportErr (R225, decision D17): a partial frame or a response in progress is abandoned, the failure is
counted, saturating at 3, and at 3 the phase is FATAL; no effect in EXEC, STOPPED and FATAL. -/
def Obligations.XportErrAbandonsAndCounts : Prop :=
  ∀ (s : State) (es : List Event), s.cfg.legal = true → s.inputs = .xportErr :: es →
    (s.phase = .accum →
      step s = .next { s with inputs := es, rxCnt := 0, xfail := min (s.xfail + 1) 3,
                              phase := if 2 ≤ s.xfail then .fatal else .accum,
                              lastOutcome := .transportError,
                              outputs := .diag .transportError :: s.outputs }) ∧
    (s.phase = .respond →
      step s = .next { s with inputs := es, txLen := 0, txIdx := 0, xfail := min (s.xfail + 1) 3,
                              phase := if 2 ≤ s.xfail then .fatal
                                       else if s.stopReq then .stopped else .accum,
                              lastOutcome := .transportError,
                              outputs := .diag .transportError :: s.outputs }) ∧
    (s.phase ≠ .accum → s.phase ≠ .respond → step s = .next { s with inputs := es })

/-- Shutdown (R226, decision D18): latched; in ACCUM the request path stops at once, discarding and reporting
a partial frame; elsewhere nothing else. -/
def Obligations.ShutdownStopsAtTheSuspensionPoint : Prop :=
  ∀ (s : State) (es : List Event), s.cfg.legal = true → s.inputs = .shutdown :: es →
    (s.phase = .accum → s.rxCnt = 0 →
      step s = .next { s with inputs := es, stopReq := true, phase := .stopped }) ∧
    (s.phase = .accum → 0 < s.rxCnt →
      step s = .next { s with inputs := es, stopReq := true, phase := .stopped, rxCnt := 0,
                              lastOutcome := .dropFrameTooShort,
                              outputs := .diag .dropFrameTooShort :: s.outputs }) ∧
    (s.phase ≠ .accum → step s = .next { s with inputs := es, stopReq := true })

/-- Reset (R228, R36; decision D12) from every state: the bank is BANK_INIT, the phase ACCUM, the counters,
the stop latch and the outcome are cleared, and the configuration is unchanged. -/
def Obligations.ResetClearsEverything : Prop :=
  ∀ (s : State) (es : List Event), s.cfg.legal = true → s.inputs = .reset :: es →
    ∃ t, step s = .next t ∧ t.cfg = s.cfg ∧ (∀ i, cellsRead t.bank i = cellsRead s.cfg.bankInit i) ∧
      t.phase = .accum ∧ t.rxCnt = 0 ∧ t.txLen = 0 ∧ t.txIdx = 0 ∧ t.xfail = 0 ∧ t.stopReq = false ∧
      t.lastOutcome = .none ∧ t.inputs = es ∧ t.outputs = s.outputs

/-- The phase after every event, as R229's table gives it (the spec's own inference from the steps), with what
its cells note beside the phase. After Exec it is RESPOND exactly if a frame is to be sent, which is so exactly
for a response and the two exceptions. That an event whose step is not enabled is consumed is log entry 2. -/
def Obligations.PhaseTransitionTable : Prop :=
  ∀ (s t : State) (e : Event) (es : List Event), s.Inv → s.inputs = e :: es → step s = .next t →
    match e, s.phase with
    | .rxByte _, .accum => t.phase = (if s.rxCnt = 7 then .exec else .accum)
    | .rxTimeout, .accum => t.phase = .accum ∧ t.rxCnt = 0
    | .internal, .exec =>
      t.phase = (if 0 < t.txLen then .respond else idlePhase s) ∧
      (0 < t.txLen ↔ t.lastOutcome = .okResponse ∨ t.lastOutcome = .excIllegalFunction ∨
        t.lastOutcome = .excIllegalDataAddress)
    | .txReady, .respond => t.phase = (if s.txIdx + 1 = s.txLen then idlePhase s else .respond)
    | .xportErr, .accum => t.phase = (if s.xfail = 2 then .fatal else .accum)
    | .xportErr, .respond => t.phase = (if s.xfail = 2 then .fatal else idlePhase s)
    | .shutdown, .accum => t.phase = .stopped
    | .shutdown, .exec => t.phase = .exec ∧ t.stopReq = true
    | .shutdown, .respond => t.phase = .respond ∧ t.stopReq = true
    | .reset, _ => t.phase = .accum
    | _, p => t.phase = p

/-- One outcome and at most one frame per Exec (R231): exactly one outcome is reported, and a frame is loaded
exactly for OK_RESPONSE, EXC_ILLEGAL_FUNCTION and EXC_ILLEGAL_DATA_ADDRESS. -/
def Obligations.ExecProducesOneOutcome : Prop :=
  ∀ s : State, s.cfg.legal = true → s.phase = .exec → s.inputs.head?.getD .internal = .internal →
    ∃ (t : State) (o : OutcomeCode), step s = .next t ∧ t.outputs = .diag o :: s.outputs ∧
      t.lastOutcome = o ∧ t.rxCnt = 0 ∧ t.bank = s.bank ∧
      ((o = .okResponse ∨ o = .excIllegalFunction ∨ o = .excIllegalDataAddress) ∧ t.phase = .respond ∧
          t.txIdx = 0 ∧ 5 ≤ t.txLen ∧ t.txLen ≤ s.cfg.txMax ∨
        (o = .dropCrcMismatch ∨ o = .dropUnitIdMismatch) ∧ t.phase = idlePhase s ∧ t.txBuf = s.txBuf ∧
          t.txLen = s.txLen)

/-- No partial frame survives a timeout, a transport error, a shutdown or a reset (R233, conflict C9): after
any of them `rx_cnt` is 0, but for a complete request waiting in EXEC, which the first three leave alone. -/
def Obligations.NoPartialFrameSurvives : Prop :=
  ∀ (s t : State) (e : Event) (es : List Event), s.Inv → s.inputs = e :: es →
    (e = .rxTimeout ∨ e = .xportErr ∨ e = .shutdown ∨ e = .reset) → step s = .next t →
    (t.phase = .exec ∧ t.rxCnt = 8 ∧ t.rxBuf = s.rxBuf ∧ s.phase = .exec ∧ e ≠ .reset) ∨ t.rxCnt = 0

/-- STOPPED and FATAL are left only by Reset (R234, R235, R291): any other step keeps the phase, sends
nothing and reports nothing. -/
def Obligations.StoppedAndFatalAreFinal : Prop :=
  ∀ s t : State, (s.phase = .stopped ∨ s.phase = .fatal) → s.inputs.head? ≠ some .reset →
    step s = .next t →
    t.phase = s.phase ∧ sentBytes t = sentBytes s ∧ outcomes t = outcomes s ∧
    rxReady t = false ∧ txValid t = false ∧ xportRelease t = true

/-- Three transport failures in a row are fatal, and two are not (R28, R254; what breaks a run is decision
D17): from ACCUM with no failure counted. -/
def Obligations.ThreeFailuresInARowAreFatal : Prop :=
  ∀ (s : State) (es : List Event), s.cfg.legal = true → s.phase = .accum → s.xfail = 0 →
    s.inputs = .xportErr :: .xportErr :: .xportErr :: es →
    (∃ t, runSteps 2 s = .next t ∧ t.phase = .accum ∧ t.xfail = 2) ∧
    (∃ t, runSteps 3 s = .next t ∧ t.phase = .fatal ∧ t.xfail = 3 ∧ t.bank = s.bank) ∧
    (∀ b, ∃ t, runSteps 3 { s with inputs := [.xportErr, .xportErr, .rxByte b] } = .next t ∧
      t.phase = .accum ∧ t.xfail = 0)

/-- A byte and a timeout in one clock are serialised in either order, with R262's two results for the eighth
byte: the frame completes, or it is discarded as too short and the byte starts a new one. That the clock admits
no third serialisation, with the step Exec in it, is the model's choice (log entry 24). -/
def Obligations.EighthByteAndTimeoutInEitherOrder : Prop :=
  ∀ (s : State) (b : Byte), s.cfg.legal = true → s.phase = .accum → s.rxCnt = 7 →
    (∃ t, runSteps 2 { s with inputs := [.rxByte b, .rxTimeout] } = .next t ∧ t.phase = .exec ∧
      t.rxCnt = 8 ∧ t.lastOutcome = s.lastOutcome) ∧
    (∃ t, runSteps 2 { s with inputs := [.rxTimeout, .rxByte b] } = .next t ∧ t.phase = .accum ∧
      t.rxCnt = 1 ∧ t.lastOutcome = .dropFrameTooShort) ∧
    (∀ es : List Event,
      (InputCycle.mk false (some b) true false false false none).Admits s es ↔
        es = [.rxByte b, .rxTimeout] ∨ es = [.rxTimeout, .rxByte b])

/-- With no input left and no request waiting, a step changes nothing; in a good quiescent state no frame is
waiting to be sent (R236, decision D2; log entry 1). -/
def Obligations.IdleMachineStaysAsItIs : Prop :=
  (∀ s : State, s.cfg.legal = true → s.inputs = [] → s.phase ≠ .exec → step s = .next s) ∧
  ∀ s : State, s.Inv → Quiescent s → s.txLen = 0

/-! ### Whole-machine statements -/

/-- The state after Reset in every legal configuration meets the invariants, whatever inputs are to come. -/
def Obligations.ResetStateMeetsInvariants : Prop :=
  State.reset.Inv ∧
  ∀ (c : Config) (es : List Event), c.legal = true → ({ State.boot c with inputs := es } : State).Inv

/-- R37, the spec's own inference, as an inductive invariant: every step from a state that meets it leads to
a state that meets it. -/
def Obligations.EveryStepKeepsInvariants : Prop :=
  ∀ s t : State, s.Inv → step s = .next t → t.Inv

/-- From a state that meets the invariants no step faults, and a step is refused only for a local-port
request that the ports cannot present (log entries 7, 12). -/
def Obligations.GoodStatesNeverStop : Prop :=
  ∀ s : State, s.Inv →
    (∀ f, step s ≠ .fault f) ∧
    (∀ r, step s = .refused r → r = .notPresentable ∧ ∃ q es, s.inputs = .loc q :: es)

/-- The configuration never changes while the hardware runs (R7, R32; decision D19). -/
def Obligations.ConfigurationIsStatic : Prop :=
  ∀ (k : Nat) (s t : State), runSteps k s = .next t → t.cfg = s.cfg

/-- Only a local-port write and Reset change the bank (R23, R208): in a run whose inputs hold neither, the
bank is what it was, whatever arrives on the wire. -/
def Obligations.OnlyLocalWritesAndResetChangeTheBank : Prop :=
  ∀ (k : Nat) (s t : State), (∀ e ∈ s.inputs, e.mayChangeBank = false) → runSteps k s = .next t →
    t.bank = s.bank

/-- A shutdown request is kept until Reset (R29). -/
def Obligations.StopRequestIsKeptUntilReset : Prop :=
  ∀ s t : State, s.stopReq = true → s.inputs.head? ≠ some .reset → step s = .next t → t.stopReq = true

/-- A step emits at most one thing (R30, R31, R231): a byte is sent only in RESPOND and is the byte at
`tx_idx`; a reported outcome is the one recorded; without a report the recorded outcome stays, Reset
excepted. -/
def Obligations.StepEmitsAtMostOneThing : Prop :=
  ∀ s t : State, step s = .next t →
    (t.outputs = s.outputs ∧ (t.lastOutcome = s.lastOutcome ∨ s.inputs.head? = some .reset)) ∨
    ∃ o, t.outputs = o :: s.outputs ∧
      match o with
      | .tx b last => s.phase = .respond ∧ b = txData s ∧ last = txLast s ∧ t.lastOutcome = s.lastOutcome
      | .diag c => t.lastOutcome = c ∧ c ≠ .none
      | .loc _ _ => t.lastOutcome = s.lastOutcome ∧ ∃ r, s.inputs.head? = some (.loc r)

/-- What no rule reads never matters (R24, R25, R30): two good states that differ only in `last_outcome`, in
buffer bytes beyond `rx_cnt` and `tx_len`, and in the record of outputs take steps that differ only so, and
emit the same. This makes the buffers' value at reset (log entry 8) harmless. -/
def Obligations.UnreadStateNeverMatters : Prop :=
  ∀ s t s' : State, s.Inv → t.Inv → SameButUnread s t → step s = .next s' →
    ∃ t', step t = .next t' ∧ SameButUnread s' t' ∧ emitted s s' = emitted t t'

/-- A response is sent whole, in order, and ends where idle() says (R224, R231): as many ready transports as
bytes are left send those bytes, the last one marked. -/
def Obligations.ResponseIsSentWholeAndInOrder : Prop :=
  ∀ (s : State) (es : List Event), s.Inv → s.phase = .respond →
    s.inputs = List.replicate (s.txLen - s.txIdx) .txReady ++ es →
    ∃ t, runSteps (s.txLen - s.txIdx) s = .next t ∧ t.phase = idlePhase s ∧ t.txLen = 0 ∧ t.inputs = es ∧
      t.bank = s.bank ∧
      sentBytes t = sentBytes s ++
        (List.range (s.txLen - s.txIdx)).map
          (fun k => (cellsRead s.txBuf (s.txIdx + k), decide (s.txIdx + k + 1 = s.txLen)))

/-- End to end (program P1 of spec/95 in general): from an idle good state, the eight bytes of `RHR u, a, n`
for this unit and in range, time for Exec, and a ready transport send exactly the success response with the
registers as they are, and the machine is idle again with the bank unchanged. -/
def Obligations.RequestIsAnsweredEndToEnd : Prop :=
  ∀ (s : State) (a n : Word) (es : List Event), s.Inv → s.phase = .accum → s.rxCnt = 0 →
    n ≠ 0#16 → a.toNat + n.toNat ≤ s.cfg.n →
    s.inputs = (rhrForm s.cfg.unitId a n).map .rxByte ++ .internal ::
      (List.replicate (5 + 2 * n.toNat) .txReady ++ es) →
    ∃ t, runSteps (9 + (5 + 2 * n.toNat)) s = .next t ∧ t.phase = .accum ∧ t.rxCnt = 0 ∧ t.txLen = 0 ∧
      t.inputs = es ∧ t.bank = s.bank ∧ t.lastOutcome = .okResponse ∧
      (sentBytes t).map Prod.fst = (sentBytes s).map Prod.fst ++
        withTrailer ([s.cfg.unitId, 0x03#8, byteCount n] ++ registerBytes s.bank a.toNat n.toNat)

/-! ### One clock, and the operands DECODE assembles -/

/-- R84: DECODE assembles the operands of a request as unsigned, big-endian numbers, at every value, with no
range check. -/
def Obligations.RequestOperandsAreUnsignedAndBigEndian : Prop :=
  ∀ b0 b1 b2 b3 b4 b5 : Byte, ∃ r : RequestFrame,
    decodeFrame (withTrailer [b0, b1, b2, b3, b4, b5]) = .ok r ∧
    r.unitId = b0 ∧ r.functionCode = b1 ∧
    r.startAddress.toNat = b2.toNat * 256 + b3.toNat ∧
    r.registerCount.toNat = b4.toNat * 256 + b5.toNat

/-- The handshakes of R237 (decision D1): in a clock without reset RxByte occurs only with `rx_valid & rx_ready`
and TxByte only with `tx_valid & tx_ready`, as the outputs stand at the start of the clock. So a clock that
starts with `rx_ready = 0` stores no byte, in whatever order its inputs are taken, and one that starts with
`tx_valid = 0` sends none. -/
def Obligations.BytesMoveOnlyOnAHandshake : Prop :=
  ∀ (c : InputCycle) (s : State) (es : List Event), c.rst = false → c.Admits s es →
    (∀ b, .rxByte b ∈ es ↔ c.rxData = some b ∧ rxReady s = true) ∧
    (.txReady ∈ es ↔ c.txReady = true ∧ txValid s = true) ∧
    ∀ t, runSteps es.length { s with inputs := es } = .next t →
      (rxReady s = false → t.rxBuf = s.rxBuf ∧ (t.rxCnt = s.rxCnt ∨ t.rxCnt = 0)) ∧
      (txValid s = false → sentBytes t = sentBytes s)

/-- The last byte of a response and a transport error in one clock, with R262's two results (the spec's own
inference; what clears `xfail` is decision D17): the response completes and the error is then counted, or the
response is abandoned and the transport's readiness finds nothing to send (log entry 2). -/
def Obligations.LastByteAndTransportErrorInEitherOrder : Prop :=
  ∀ s : State, s.cfg.legal = true → s.phase = .respond → s.txIdx + 1 = s.txLen → s.txLen ≤ s.cfg.txMax →
    s.stopReq = false →
    (∃ t, runSteps 2 { s with inputs := [.txReady, .xportErr] } = .next t ∧ t.phase = .accum ∧ t.txLen = 0 ∧
      t.xfail = 1 ∧ t.lastOutcome = .transportError ∧ sentBytes t = sentBytes s ++ [(txData s, true)]) ∧
    (∃ t, runSteps 2 { s with inputs := [.xportErr, .txReady] } = .next t ∧
      t.phase = (if 2 ≤ s.xfail then .fatal else .accum) ∧ t.txLen = 0 ∧ t.xfail = min (s.xfail + 1) 3 ∧
      t.lastOutcome = .transportError ∧ sentBytes t = sentBytes s) ∧
    (∀ es : List Event,
      (InputCycle.mk false none false true true false none).Admits s es ↔
        es = [.txReady, .xportErr] ∨ es = [.xportErr, .txReady])

/-- Reset wins its clock and the other inputs are lost (R237, decision D1): a clock with `rst` high and any
other inputs leads, in a legal configuration, to the state of the step Reset alone. That this is exactly one
state rests on the model's choices: the buffers' bytes, unspecified after Reset (R36), are zero (log entry 8),
and the configuration and the record of outputs are kept (log entry 20). The reset values of the other fields
are decision D12. -/
def Obligations.ResetWinsItsClock : Prop :=
  ∀ (c : InputCycle) (s t : State), c.rst = true → s.cfg.legal = true →
    (ClockStep c s t ↔ t = { State.boot s.cfg with outputs := s.outputs })
end

