-- ==== Sys2Proof/Laws/Bytes.lean ====
section
/-! SUPPORT. Splitting a word into bytes and joining it again, in either order; lengths of frames. -/

namespace Sys2Proof.Machine

@[simp] theorem u16be_hi_lo (v : Word) : u16be (hi8 v) (lo8 v) = v := by
  apply BitVec.eq_of_getLsbD_eq
  intro i hi
  simp only [u16be, hi8, lo8, BitVec.getLsbD_append, BitVec.getLsbD_extractLsb']
  by_cases h : i < 8 <;> simp [h]
  · rw [show 8 + (i - 8) = i by omega]
    simp [show i - 8 < 8 by omega]

@[simp] theorem u16le_lo_hi (v : Word) : u16le (lo8 v) (hi8 v) = v := u16be_hi_lo v

@[simp] theorem hi8_u16be (h l : Byte) : hi8 (u16be h l) = h := by
  apply BitVec.eq_of_getLsbD_eq
  intro i hi
  simp only [u16be, hi8, BitVec.getLsbD_append, BitVec.getLsbD_extractLsb']
  simp [hi]

@[simp] theorem lo8_u16be (h l : Byte) : lo8 (u16be h l) = l := by
  apply BitVec.eq_of_getLsbD_eq
  intro i hi
  simp only [u16be, lo8, BitVec.getLsbD_append, BitVec.getLsbD_extractLsb']
  simp [hi]

@[simp] theorem hi8_u16le (l h : Byte) : hi8 (u16le l h) = h := hi8_u16be h l
@[simp] theorem lo8_u16le (l h : Byte) : lo8 (u16le l h) = l := lo8_u16be h l

@[simp] theorem be2_length (v : Word) : (be2 v).length = 2 := rfl
@[simp] theorem le2_length (v : Word) : (le2 v).length = 2 := rfl

@[simp] theorem requestBody_eq (u f : Byte) (a n : Word) :
    requestBody u f a n = [u, f, hi8 a, lo8 a, hi8 n, lo8 n] := rfl

@[simp] theorem withTrailer_length (P : List Byte) : (withTrailer P).length = P.length + 2 := by
  simp [withTrailer]

@[simp] theorem flatMap_be2_length (vs : List Word) : (vs.flatMap be2).length = 2 * vs.length := by
  induction vs with
  | nil => rfl
  | cons v vs ih => simp [List.flatMap_cons, ih]; omega

@[simp] theorem responseBody_length (u f b : Byte) (vs : List Word) :
    (responseBody u f b vs).length = 3 + 2 * vs.length := by
  simp [responseBody]; omega

/-- A success response has `5 + 2*n` bytes (R172). -/
@[simp] theorem encodeResponse_length (u f b : Byte) (vs : List Word) :
    (encodeResponse u f b vs).length = 5 + 2 * vs.length := by
  simp [encodeResponse]; omega

/-- An exception response has 5 bytes (R172). -/
@[simp] theorem encodeException_length (u f e : Byte) : (encodeException u f e).length = 5 := by
  simp [encodeException, exceptionBody]

/-- Setting bit 7 twice sets it once (R171). -/
@[simp] theorem or_0x80_idem (f : Byte) : f ||| 0x80#8 ||| 0x80#8 = f ||| 0x80#8 := by
  rw [BitVec.or_assoc, BitVec.or_self]

end Sys2Proof.Machine
end

