-- ==== Sys2Proof/Laws/Cells.lean ====
section
/-! SUPPORT. The laws of the sparse stores: read after write, bursts, and the canonical form. -/

namespace Sys2Proof.Machine

variable {w : Nat}

@[simp] theorem cellsRead_nil (a : Nat) : cellsRead ([] : Cells w) a = 0#w := rfl

/-- A write leaves every other address alone. -/
theorem cellsRead_write_other (m : Cells w) {a b : Nat} (v : BitVec w) (h : b ≠ a) :
    cellsRead (cellsWrite m a v) b = cellsRead m b := by
  induction m with
  | nil => by_cases hv : v = 0#w <;> simp [cellsWrite, cellsRead, hv, h.symm]
  | cons c m ih =>
    obtain ⟨k, x⟩ := c
    simp only [cellsWrite]
    split_ifs with h1 h2 h2 h3
    · rfl
    · simp [cellsRead, h.symm]
    · subst h2; simp [cellsRead, h.symm]
    · subst h2; simp [cellsRead, h.symm]
    · simp only [cellsRead, ih]

/-- Every address listed below the canonical form's bound. -/
theorem cellsRead_eq_zero_of_lt {m : Cells w} {a : Nat} (h : ∀ c ∈ m, a < c.1) : cellsRead m a = 0#w := by
  induction m with
  | nil => rfl
  | cons c m ih =>
    have hc := h c (by simp)
    simp only [cellsRead, show c.1 ≠ a by omega, if_false]
    exact ih fun d hd => h d (by simp [hd])

theorem cellsWf_cons {n k : Nat} {v : BitVec w} {m : Cells w} :
    cellsWf n ((k, v) :: m) = true ↔ k < n ∧ v ≠ 0#w ∧ (∀ c ∈ m, k < c.1) ∧ cellsWf n m = true := by
  simp [cellsWf, and_assoc]

/-- A read of the address written gives the value written. -/
theorem cellsRead_write_same {n : Nat} {m : Cells w} (hm : cellsWf n m = true) (a : Nat) (v : BitVec w) :
    cellsRead (cellsWrite m a v) a = v := by
  induction m with
  | nil => by_cases hv : v = 0#w <;> simp [cellsWrite, cellsRead, hv]
  | cons c m ih =>
    obtain ⟨k, x⟩ := c
    obtain ⟨-, -, hlt, hm'⟩ := cellsWf_cons.1 hm
    simp only [cellsWrite]
    split_ifs with h1 h2 h2 h3
    · subst h2
      exact cellsRead_eq_zero_of_lt fun d hd => by
        rcases List.mem_cons.1 hd with rfl | hd
        · exact h1
        · exact h1.trans (hlt d hd)
    · simp [cellsRead]
    · subst h2; subst h3; exact cellsRead_eq_zero_of_lt hlt
    · simp [cellsRead]
    · simp only [cellsRead, show k ≠ a by omega, if_false, ih hm']

theorem cellsWrite_keys {m : Cells w} {a b : Nat} {v : BitVec w} (hb : b < a) (h : ∀ c ∈ m, b < c.1) :
    ∀ c ∈ cellsWrite m a v, b < c.1 := by
  induction m with
  | nil => by_cases hv : v = 0#w <;> simp [cellsWrite, hv, hb]
  | cons c m ih =>
    obtain ⟨k, x⟩ := c
    have hk : b < k := h (k, x) (by simp)
    have hm : ∀ c ∈ m, b < c.1 := fun d hd => h d (by simp [hd])
    intro d hd
    simp only [cellsWrite] at hd
    split_ifs at hd with h1 h2 h2 h3
    · exact h d hd
    · rcases List.mem_cons.1 hd with rfl | hd
      · exact hb
      · exact h d hd
    · exact hm d hd
    · rcases List.mem_cons.1 hd with rfl | hd
      · exact hb
      · exact hm d hd
    · rcases List.mem_cons.1 hd with rfl | hd
      · exact hk
      · exact ih hm d hd

/-- A write inside the space keeps the canonical form. -/
theorem cellsWrite_wf {n : Nat} {m : Cells w} (hm : cellsWf n m = true) {a : Nat} (ha : a < n)
    (v : BitVec w) : cellsWf n (cellsWrite m a v) = true := by
  induction m with
  | nil => by_cases hv : v = 0#w <;> simp [cellsWrite, cellsWf, hv, ha]
  | cons c m ih =>
    obtain ⟨k, x⟩ := c
    obtain ⟨hk, hx, hlt, hm'⟩ := cellsWf_cons.1 hm
    simp only [cellsWrite]
    split_ifs with h1 h2 h2 h3
    · exact hm
    · refine cellsWf_cons.2 ⟨ha, h2, fun d hd => ?_, hm⟩
      rcases List.mem_cons.1 hd with rfl | hd
      · exact h1
      · exact h1.trans (hlt d hd)
    · exact hm'
    · subst h2; exact cellsWf_cons.2 ⟨ha, h3, hlt, hm'⟩
    · exact cellsWf_cons.2 ⟨hk, hx, cellsWrite_keys (by omega) hlt, ih hm'⟩

/-- A bound may be raised. -/
theorem cellsWf_mono {n n' : Nat} (h : n ≤ n') {m : Cells w} (hm : cellsWf n m = true) :
    cellsWf n' m = true := by
  induction m with
  | nil => rfl
  | cons c m ih =>
    obtain ⟨k, x⟩ := c
    obtain ⟨hk, hx, hlt, hm'⟩ := cellsWf_cons.1 hm
    exact cellsWf_cons.2 ⟨by omega, hx, hlt, ih hm'⟩

/-- Nothing stands at or above the bound. -/
theorem cellsRead_beyond {n : Nat} {m : Cells w} (hm : cellsWf n m = true) {a : Nat} (ha : n ≤ a) :
    cellsRead m a = 0#w := by
  induction m with
  | nil => rfl
  | cons c m ih =>
    obtain ⟨k, x⟩ := c
    obtain ⟨hk, -, -, hm'⟩ := cellsWf_cons.1 hm
    simp only [cellsRead, show k ≠ a by omega, if_false, ih hm']

/-- Equal stores are equal data: two canonical stores that read alike are the same list. -/
theorem cells_ext {n : Nat} {m m' : Cells w} (hm : cellsWf n m = true) (hm' : cellsWf n m' = true)
    (h : ∀ a, cellsRead m a = cellsRead m' a) : m = m' := by
  induction m generalizing m' with
  | nil =>
    cases m' with
    | nil => rfl
    | cons c m' =>
      obtain ⟨k, x⟩ := c
      obtain ⟨-, hx, -, -⟩ := cellsWf_cons.1 hm'
      exact absurd (by simpa [cellsRead] using (h k).symm) hx
  | cons c m ih =>
    obtain ⟨k, x⟩ := c
    obtain ⟨hk, hx, hlt, hmw⟩ := cellsWf_cons.1 hm
    cases m' with
    | nil => exact absurd (by simpa [cellsRead] using h k) hx
    | cons c' m' =>
      obtain ⟨k', x'⟩ := c'
      obtain ⟨hk', hx', hlt', hmw'⟩ := cellsWf_cons.1 hm'
      have hkk : k = k' := by
        rcases Nat.lt_trichotomy k k' with hl | he | hl
        · have h0 := cellsRead_eq_zero_of_lt (m := (k', x') :: m') (a := k) fun d hd => by
            rcases List.mem_cons.1 hd with rfl | hd
            · exact hl
            · exact hl.trans (hlt' d hd)
          exact absurd (by have := h k; rw [h0] at this; simpa [cellsRead] using this) hx
        · exact he
        · have h0 := cellsRead_eq_zero_of_lt (m := (k, x) :: m) (a := k') fun d hd => by
            rcases List.mem_cons.1 hd with rfl | hd
            · exact hl
            · exact hl.trans (hlt d hd)
          exact absurd (by have := h k'; rw [h0] at this; simpa [cellsRead] using this.symm) hx'
      subst hkk
      have hxx : x = x' := by simpa [cellsRead] using h k
      subst hxx
      rw [ih hmw hmw' fun a => ?_]
      by_cases ha : a = k
      · subst ha
        rw [cellsRead_eq_zero_of_lt hlt, cellsRead_eq_zero_of_lt hlt']
      · simpa [cellsRead, Ne.symm ha] using h a

@[simp] theorem cellsReadBurst_length (m : Cells w) (a n : Nat) : (cellsReadBurst m a n).length = n := by
  induction n generalizing a with
  | zero => rfl
  | succ n ih => simp [cellsReadBurst, ih]

/-- The `i`-th unit of a burst is the unit at the `i`-th address. -/
theorem cellsReadBurst_getD (m : Cells w) (a n i : Nat) (h : i < n) (d : BitVec w) :
    (cellsReadBurst m a n).getD i d = cellsRead m (a + i) := by
  induction n generalizing a i with
  | zero => omega
  | succ n ih =>
    cases i with
    | zero => simp [cellsReadBurst]
    | succ i =>
      simp only [cellsReadBurst, List.getD_cons_succ]
      rw [ih (a + 1) i (by omega)]
      congr 1; omega

/-- A burst depends only on the units it covers. -/
theorem cellsReadBurst_congr {m m' : Cells w} {a n : Nat}
    (h : ∀ i, a ≤ i → i < a + n → cellsRead m i = cellsRead m' i) :
    cellsReadBurst m a n = cellsReadBurst m' a n := by
  induction n generalizing a with
  | zero => rfl
  | succ n ih =>
    simp only [cellsReadBurst]
    rw [h a (by omega) (by omega), ih fun i h1 h2 => h i (by omega) (by omega)]

/-- A burst is the burst of its first part followed by the burst of the rest. -/
theorem cellsReadBurst_add (m : Cells w) (a n k : Nat) :
    cellsReadBurst m a (n + k) = cellsReadBurst m a n ++ cellsReadBurst m (a + n) k := by
  induction n generalizing a with
  | zero => simp [cellsReadBurst]
  | succ n ih =>
    rw [show n + 1 + k = (n + k) + 1 by omega]
    simp only [cellsReadBurst, ih, List.cons_append]
    rw [show a + 1 + n = a + (n + 1) by omega]

/-- A burst write inside the space keeps the canonical form. -/
theorem cellsWriteBurst_wf {n : Nat} {m : Cells w} (hm : cellsWf n m = true) {a : Nat}
    {vs : List (BitVec w)} (h : a + vs.length ≤ n) : cellsWf n (cellsWriteBurst m a vs) = true := by
  induction vs generalizing m a with
  | nil => exact hm
  | cons v vs ih =>
    simp only [List.length_cons] at h
    exact ih (cellsWrite_wf hm (by omega) v) (by omega)

/-- A burst write leaves every address outside it alone. -/
theorem cellsRead_writeBurst_outside (m : Cells w) {a i : Nat} {vs : List (BitVec w)}
    (h : i < a ∨ a + vs.length ≤ i) : cellsRead (cellsWriteBurst m a vs) i = cellsRead m i := by
  induction vs generalizing m a with
  | nil => rfl
  | cons v vs ih =>
    simp only [List.length_cons] at h
    simp only [cellsWriteBurst]
    rw [ih _ (by omega), cellsRead_write_other _ _ (by omega)]

/-- A burst write stores its values at consecutive addresses. -/
theorem cellsRead_writeBurst_inside {n : Nat} {m : Cells w} (hm : cellsWf n m = true) {a i : Nat}
    {vs : List (BitVec w)} (hi : i < vs.length) (d : BitVec w) :
    cellsRead (cellsWriteBurst m a vs) (a + i) = vs.getD i d := by
  induction vs generalizing m a i n with
  | nil => simp at hi
  | cons v vs ih =>
    simp only [List.length_cons] at hi
    simp only [cellsWriteBurst]
    have hw : cellsWf (max n (a + 1)) (cellsWrite m a v) = true :=
      cellsWrite_wf (cellsWf_mono (by omega) hm) (by omega) v
    cases i with
    | zero =>
      rw [cellsRead_writeBurst_outside _ (by omega), Nat.add_zero, cellsRead_write_same hm]
      simp
    | succ i =>
      rw [show a + (i + 1) = (a + 1) + i by omega, ih hw (by omega)]
      simp

/-- Reading back a burst just written gives the values written. -/
theorem cellsReadBurst_writeBurst {n : Nat} {m : Cells w} (hm : cellsWf n m = true) (a : Nat)
    (vs : List (BitVec w)) : cellsReadBurst (cellsWriteBurst m a vs) a vs.length = vs := by
  apply List.ext_getElem (by simp)
  intro i h1 h2
  have e1 := cellsReadBurst_getD (cellsWriteBurst m a vs) a vs.length i h2 0#w
  rw [cellsRead_writeBurst_inside hm h2 0#w] at e1
  rw [List.getD_eq_getElem _ _ h1, List.getD_eq_getElem _ _ h2] at e1
  exact e1

end Sys2Proof.Machine
end

