-- ==== Sys2Proof/Laws/Crc.lean ====
section
/-! SUPPORT. The CRC register is linear and its shift is injective; these carry every law of the CRC. -/

namespace Sys2Proof.Machine

/-- A shift whose low bit is 0 is a plain shift. -/
theorem crcShift_even {c : Word} (h : c.getLsbD 0 = false) : crcShift c = c >>> 1 := by
  unfold crcShift; rw [h]; rfl

/-- The shift is linear over exclusive or. -/
theorem crcShift_xor (a b : Word) : crcShift (a ^^^ b) = crcShift a ^^^ crcShift b := by
  unfold crcShift
  rw [BitVec.getLsbD_xor, BitVec.ushiftRight_xor_distrib]
  cases a.getLsbD 0 <;> cases b.getLsbD 0
  · rfl
  · simp [BitVec.xor_assoc]
  · simp only [Bool.xor_false, if_true, Bool.false_eq_true, if_false]
    rw [BitVec.xor_assoc, BitVec.xor_comm (b >>> 1), ← BitVec.xor_assoc]
  · simp only [Bool.xor_self, Bool.false_eq_true, if_false, if_true]
    rw [show (a >>> 1 ^^^ 40961#16) ^^^ (b >>> 1 ^^^ 40961#16) =
      (a >>> 1 ^^^ b >>> 1) ^^^ (40961#16 ^^^ 40961#16) by ac_rfl]
    simp

theorem crcShifts_xor (k : Nat) (a b : Word) : crcShifts k (a ^^^ b) = crcShifts k a ^^^ crcShifts k b := by
  induction k generalizing a b with
  | zero => rfl
  | succ k ih => simp only [crcShifts, crcShift_xor, ih]

theorem crcShifts_add (j k : Nat) (c : Word) : crcShifts (j + k) c = crcShifts k (crcShifts j c) := by
  induction j generalizing c with
  | zero => simp [crcShifts]
  | succ j ih => rw [show j + 1 + k = (j + k) + 1 by omega]; simp only [crcShifts, ih]

/-- The shift sends only zero to zero: the polynomial's top bit marks every reduction. -/
theorem crcShift_eq_zero {c : Word} (h : crcShift c = 0#16) : c = 0#16 := by
  have hb : c.getLsbD 0 = false := by
    cases h0 : c.getLsbD 0
    · rfl
    · have h15 := congrArg (fun v => BitVec.getLsbD v 15) h
      simp [crcShift, h0] at h15
  rw [crcShift_even hb] at h
  apply BitVec.eq_of_getLsbD_eq
  intro i hi
  cases i with
  | zero => simpa using hb
  | succ i =>
    have := congrArg (fun v => BitVec.getLsbD v i) h
    simpa [Nat.add_comm] using this

theorem crcShifts_eq_zero {k : Nat} {c : Word} (h : crcShifts k c = 0#16) : c = 0#16 := by
  induction k generalizing c with
  | zero => exact h
  | succ k ih => exact crcShift_eq_zero (ih h)

/-- Shifts that meet no 1 in the low bits are plain shifts. -/
theorem crcShifts_low_zero {k : Nat} {c : Word} (h : ∀ i, i < k → c.getLsbD i = false) :
    crcShifts k c = c >>> k := by
  induction k generalizing c with
  | zero => simp [crcShifts]
  | succ k ih =>
    simp only [crcShifts]
    rw [crcShift_even (h 0 (by omega)), ih, ← BitVec.shiftRight_add, Nat.add_comm]
    intro i hi
    simpa [Nat.add_comm] using h (i + 1) (by omega)

/-- Changing the register before a run of bytes changes it after by the shifted change. -/
theorem crc_foldl_xor (B : List Byte) (c d : Word) :
    B.foldl crcByte (c ^^^ d) = B.foldl crcByte c ^^^ crcShifts (8 * B.length) d := by
  induction B generalizing c d with
  | nil => simp [crcShifts]
  | cons b B ih =>
    have hb : crcByte (c ^^^ d) b = crcByte c b ^^^ crcShifts 8 d := by
      unfold crcByte
      rw [show (c ^^^ d) ^^^ b.setWidth 16 = (c ^^^ b.setWidth 16) ^^^ d by ac_rfl, crcShifts_xor]
    simp only [List.foldl_cons, hb, ih, List.length_cons]
    rw [show 8 * (B.length + 1) = 8 + 8 * B.length by omega, crcShifts_add]

theorem crc16_append (P Q : List Byte) : crc16 (P ++ Q) = Q.foldl crcByte (crc16 P) := by
  simp [crc16]

/-- VERIFY is equality of all 16 bits (R113). -/
theorem verify_iff (P : List Byte) (c : Word) : verify P c = true ↔ crc16 P = c := by simp [verify]

theorem verify_eq_false_iff (P : List Byte) (c : Word) : verify P c = false ↔ crc16 P ≠ c := by
  simp [verify]

end Sys2Proof.Machine
end

