-- ==== Sys2Proof/Laws/State.lean ====
section
/-! SUPPORT. One lemma per field per update of the state, so that no later proof unfolds a record update. -/

namespace Sys2Proof.Machine

@[simp] theorem minFrame_eq : Config.minFrame = 8 := rfl
@[simp] theorem fatalThreshold_eq : Config.fatalThreshold = 3 := rfl
@[simp] theorem fcReadHoldingRegisters_eq : Config.fcReadHoldingRegisters = 0x03#8 := rfl

@[simp] theorem emit_cfg (o : Output) (s : State) : (emit o s).cfg = s.cfg := rfl
@[simp] theorem emit_bank (o : Output) (s : State) : (emit o s).bank = s.bank := rfl
@[simp] theorem emit_phase (o : Output) (s : State) : (emit o s).phase = s.phase := rfl
@[simp] theorem emit_rxBuf (o : Output) (s : State) : (emit o s).rxBuf = s.rxBuf := rfl
@[simp] theorem emit_rxCnt (o : Output) (s : State) : (emit o s).rxCnt = s.rxCnt := rfl
@[simp] theorem emit_txBuf (o : Output) (s : State) : (emit o s).txBuf = s.txBuf := rfl
@[simp] theorem emit_txLen (o : Output) (s : State) : (emit o s).txLen = s.txLen := rfl
@[simp] theorem emit_txIdx (o : Output) (s : State) : (emit o s).txIdx = s.txIdx := rfl
@[simp] theorem emit_xfail (o : Output) (s : State) : (emit o s).xfail = s.xfail := rfl
@[simp] theorem emit_stopReq (o : Output) (s : State) : (emit o s).stopReq = s.stopReq := rfl
@[simp] theorem emit_lastOutcome (o : Output) (s : State) : (emit o s).lastOutcome = s.lastOutcome := rfl
@[simp] theorem emit_inputs (o : Output) (s : State) : (emit o s).inputs = s.inputs := rfl
@[simp] theorem emit_outputs (o : Output) (s : State) : (emit o s).outputs = o :: s.outputs := rfl

@[simp] theorem report_cfg (o : OutcomeCode) (s : State) : (report o s).cfg = s.cfg := rfl
@[simp] theorem report_bank (o : OutcomeCode) (s : State) : (report o s).bank = s.bank := rfl
@[simp] theorem report_phase (o : OutcomeCode) (s : State) : (report o s).phase = s.phase := rfl
@[simp] theorem report_rxBuf (o : OutcomeCode) (s : State) : (report o s).rxBuf = s.rxBuf := rfl
@[simp] theorem report_rxCnt (o : OutcomeCode) (s : State) : (report o s).rxCnt = s.rxCnt := rfl
@[simp] theorem report_txBuf (o : OutcomeCode) (s : State) : (report o s).txBuf = s.txBuf := rfl
@[simp] theorem report_txLen (o : OutcomeCode) (s : State) : (report o s).txLen = s.txLen := rfl
@[simp] theorem report_txIdx (o : OutcomeCode) (s : State) : (report o s).txIdx = s.txIdx := rfl
@[simp] theorem report_xfail (o : OutcomeCode) (s : State) : (report o s).xfail = s.xfail := rfl
@[simp] theorem report_stopReq (o : OutcomeCode) (s : State) : (report o s).stopReq = s.stopReq := rfl
@[simp] theorem report_lastOutcome (o : OutcomeCode) (s : State) : (report o s).lastOutcome = o := rfl
@[simp] theorem report_inputs (o : OutcomeCode) (s : State) : (report o s).inputs = s.inputs := rfl
@[simp] theorem report_outputs (o : OutcomeCode) (s : State) : (report o s).outputs = .diag o :: s.outputs := rfl

@[simp] theorem toIdle_cfg (s : State) : (toIdle s).cfg = s.cfg := rfl
@[simp] theorem toIdle_bank (s : State) : (toIdle s).bank = s.bank := rfl
@[simp] theorem toIdle_phase (s : State) : (toIdle s).phase = idlePhase s := rfl
@[simp] theorem toIdle_rxBuf (s : State) : (toIdle s).rxBuf = s.rxBuf := rfl
@[simp] theorem toIdle_rxCnt (s : State) : (toIdle s).rxCnt = s.rxCnt := rfl
@[simp] theorem toIdle_txBuf (s : State) : (toIdle s).txBuf = s.txBuf := rfl
@[simp] theorem toIdle_txLen (s : State) : (toIdle s).txLen = s.txLen := rfl
@[simp] theorem toIdle_txIdx (s : State) : (toIdle s).txIdx = s.txIdx := rfl
@[simp] theorem toIdle_xfail (s : State) : (toIdle s).xfail = s.xfail := rfl
@[simp] theorem toIdle_stopReq (s : State) : (toIdle s).stopReq = s.stopReq := rfl
@[simp] theorem toIdle_lastOutcome (s : State) : (toIdle s).lastOutcome = s.lastOutcome := rfl
@[simp] theorem toIdle_inputs (s : State) : (toIdle s).inputs = s.inputs := rfl
@[simp] theorem toIdle_outputs (s : State) : (toIdle s).outputs = s.outputs := rfl

@[simp] theorem transportOk_cfg (s : State) : (transportOk s).cfg = s.cfg := rfl
@[simp] theorem transportOk_bank (s : State) : (transportOk s).bank = s.bank := rfl
@[simp] theorem transportOk_phase (s : State) : (transportOk s).phase = s.phase := rfl
@[simp] theorem transportOk_rxBuf (s : State) : (transportOk s).rxBuf = s.rxBuf := rfl
@[simp] theorem transportOk_rxCnt (s : State) : (transportOk s).rxCnt = s.rxCnt := rfl
@[simp] theorem transportOk_txBuf (s : State) : (transportOk s).txBuf = s.txBuf := rfl
@[simp] theorem transportOk_txLen (s : State) : (transportOk s).txLen = s.txLen := rfl
@[simp] theorem transportOk_txIdx (s : State) : (transportOk s).txIdx = s.txIdx := rfl
@[simp] theorem transportOk_xfail (s : State) : (transportOk s).xfail = 0 := rfl
@[simp] theorem transportOk_stopReq (s : State) : (transportOk s).stopReq = s.stopReq := rfl
@[simp] theorem transportOk_lastOutcome (s : State) : (transportOk s).lastOutcome = s.lastOutcome := rfl
@[simp] theorem transportOk_inputs (s : State) : (transportOk s).inputs = s.inputs := rfl
@[simp] theorem transportOk_outputs (s : State) : (transportOk s).outputs = s.outputs := rfl

@[simp] theorem transportFailed_cfg (s : State) : (transportFailed s).cfg = s.cfg := rfl
@[simp] theorem transportFailed_bank (s : State) : (transportFailed s).bank = s.bank := rfl
@[simp] theorem transportFailed_phase (s : State) : (transportFailed s).phase = if min (s.xfail + 1) 3 = 3 then .fatal else s.phase := rfl
@[simp] theorem transportFailed_rxBuf (s : State) : (transportFailed s).rxBuf = s.rxBuf := rfl
@[simp] theorem transportFailed_rxCnt (s : State) : (transportFailed s).rxCnt = s.rxCnt := rfl
@[simp] theorem transportFailed_txBuf (s : State) : (transportFailed s).txBuf = s.txBuf := rfl
@[simp] theorem transportFailed_txLen (s : State) : (transportFailed s).txLen = s.txLen := rfl
@[simp] theorem transportFailed_txIdx (s : State) : (transportFailed s).txIdx = s.txIdx := rfl
@[simp] theorem transportFailed_xfail (s : State) : (transportFailed s).xfail = min (s.xfail + 1) 3 := rfl
@[simp] theorem transportFailed_stopReq (s : State) : (transportFailed s).stopReq = s.stopReq := rfl
@[simp] theorem transportFailed_lastOutcome (s : State) : (transportFailed s).lastOutcome = .transportError := rfl
@[simp] theorem transportFailed_inputs (s : State) : (transportFailed s).inputs = s.inputs := rfl
@[simp] theorem transportFailed_outputs (s : State) : (transportFailed s).outputs = .diag .transportError :: s.outputs := rfl

@[simp] theorem latchStop_cfg (s : State) : (latchStop s).cfg = s.cfg := rfl
@[simp] theorem latchStop_bank (s : State) : (latchStop s).bank = s.bank := rfl
@[simp] theorem latchStop_phase (s : State) : (latchStop s).phase = s.phase := rfl
@[simp] theorem latchStop_rxBuf (s : State) : (latchStop s).rxBuf = s.rxBuf := rfl
@[simp] theorem latchStop_rxCnt (s : State) : (latchStop s).rxCnt = s.rxCnt := rfl
@[simp] theorem latchStop_txBuf (s : State) : (latchStop s).txBuf = s.txBuf := rfl
@[simp] theorem latchStop_txLen (s : State) : (latchStop s).txLen = s.txLen := rfl
@[simp] theorem latchStop_txIdx (s : State) : (latchStop s).txIdx = s.txIdx := rfl
@[simp] theorem latchStop_xfail (s : State) : (latchStop s).xfail = s.xfail := rfl
@[simp] theorem latchStop_stopReq (s : State) : (latchStop s).stopReq = true := rfl
@[simp] theorem latchStop_lastOutcome (s : State) : (latchStop s).lastOutcome = s.lastOutcome := rfl
@[simp] theorem latchStop_inputs (s : State) : (latchStop s).inputs = s.inputs := rfl
@[simp] theorem latchStop_outputs (s : State) : (latchStop s).outputs = s.outputs := rfl

@[simp] theorem clearRx_cfg (s : State) : (clearRx s).cfg = s.cfg := rfl
@[simp] theorem clearRx_bank (s : State) : (clearRx s).bank = s.bank := rfl
@[simp] theorem clearRx_phase (s : State) : (clearRx s).phase = s.phase := rfl
@[simp] theorem clearRx_rxBuf (s : State) : (clearRx s).rxBuf = s.rxBuf := rfl
@[simp] theorem clearRx_rxCnt (s : State) : (clearRx s).rxCnt = 0 := rfl
@[simp] theorem clearRx_txBuf (s : State) : (clearRx s).txBuf = s.txBuf := rfl
@[simp] theorem clearRx_txLen (s : State) : (clearRx s).txLen = s.txLen := rfl
@[simp] theorem clearRx_txIdx (s : State) : (clearRx s).txIdx = s.txIdx := rfl
@[simp] theorem clearRx_xfail (s : State) : (clearRx s).xfail = s.xfail := rfl
@[simp] theorem clearRx_stopReq (s : State) : (clearRx s).stopReq = s.stopReq := rfl
@[simp] theorem clearRx_lastOutcome (s : State) : (clearRx s).lastOutcome = s.lastOutcome := rfl
@[simp] theorem clearRx_inputs (s : State) : (clearRx s).inputs = s.inputs := rfl
@[simp] theorem clearRx_outputs (s : State) : (clearRx s).outputs = s.outputs := rfl

@[simp] theorem clearTx_cfg (s : State) : (clearTx s).cfg = s.cfg := rfl
@[simp] theorem clearTx_bank (s : State) : (clearTx s).bank = s.bank := rfl
@[simp] theorem clearTx_phase (s : State) : (clearTx s).phase = s.phase := rfl
@[simp] theorem clearTx_rxBuf (s : State) : (clearTx s).rxBuf = s.rxBuf := rfl
@[simp] theorem clearTx_rxCnt (s : State) : (clearTx s).rxCnt = s.rxCnt := rfl
@[simp] theorem clearTx_txBuf (s : State) : (clearTx s).txBuf = s.txBuf := rfl
@[simp] theorem clearTx_txLen (s : State) : (clearTx s).txLen = 0 := rfl
@[simp] theorem clearTx_txIdx (s : State) : (clearTx s).txIdx = 0 := rfl
@[simp] theorem clearTx_xfail (s : State) : (clearTx s).xfail = s.xfail := rfl
@[simp] theorem clearTx_stopReq (s : State) : (clearTx s).stopReq = s.stopReq := rfl
@[simp] theorem clearTx_lastOutcome (s : State) : (clearTx s).lastOutcome = s.lastOutcome := rfl
@[simp] theorem clearTx_inputs (s : State) : (clearTx s).inputs = s.inputs := rfl
@[simp] theorem clearTx_outputs (s : State) : (clearTx s).outputs = s.outputs := rfl

@[simp] theorem drop_cfg (o : OutcomeCode) (s : State) : (drop o s).cfg = s.cfg := rfl
@[simp] theorem drop_bank (o : OutcomeCode) (s : State) : (drop o s).bank = s.bank := rfl
@[simp] theorem drop_phase (o : OutcomeCode) (s : State) : (drop o s).phase = idlePhase s := rfl
@[simp] theorem drop_rxBuf (o : OutcomeCode) (s : State) : (drop o s).rxBuf = s.rxBuf := rfl
@[simp] theorem drop_rxCnt (o : OutcomeCode) (s : State) : (drop o s).rxCnt = s.rxCnt := rfl
@[simp] theorem drop_txBuf (o : OutcomeCode) (s : State) : (drop o s).txBuf = s.txBuf := rfl
@[simp] theorem drop_txLen (o : OutcomeCode) (s : State) : (drop o s).txLen = s.txLen := rfl
@[simp] theorem drop_txIdx (o : OutcomeCode) (s : State) : (drop o s).txIdx = s.txIdx := rfl
@[simp] theorem drop_xfail (o : OutcomeCode) (s : State) : (drop o s).xfail = s.xfail := rfl
@[simp] theorem drop_stopReq (o : OutcomeCode) (s : State) : (drop o s).stopReq = s.stopReq := rfl
@[simp] theorem drop_lastOutcome (o : OutcomeCode) (s : State) : (drop o s).lastOutcome = o := rfl
@[simp] theorem drop_inputs (o : OutcomeCode) (s : State) : (drop o s).inputs = s.inputs := rfl
@[simp] theorem drop_outputs (o : OutcomeCode) (s : State) : (drop o s).outputs = .diag o :: s.outputs := rfl

@[simp] theorem loadTx_cfg (F : List Byte) (s : State) : (loadTx F s).cfg = s.cfg := rfl
@[simp] theorem loadTx_bank (F : List Byte) (s : State) : (loadTx F s).bank = s.bank := rfl
@[simp] theorem loadTx_phase (F : List Byte) (s : State) : (loadTx F s).phase = .respond := rfl
@[simp] theorem loadTx_rxBuf (F : List Byte) (s : State) : (loadTx F s).rxBuf = s.rxBuf := rfl
@[simp] theorem loadTx_rxCnt (F : List Byte) (s : State) : (loadTx F s).rxCnt = s.rxCnt := rfl
@[simp] theorem loadTx_txBuf (F : List Byte) (s : State) : (loadTx F s).txBuf = cellsWriteBurst s.txBuf 0 F := rfl
@[simp] theorem loadTx_txLen (F : List Byte) (s : State) : (loadTx F s).txLen = F.length := rfl
@[simp] theorem loadTx_txIdx (F : List Byte) (s : State) : (loadTx F s).txIdx = 0 := rfl
@[simp] theorem loadTx_xfail (F : List Byte) (s : State) : (loadTx F s).xfail = s.xfail := rfl
@[simp] theorem loadTx_stopReq (F : List Byte) (s : State) : (loadTx F s).stopReq = s.stopReq := rfl
@[simp] theorem loadTx_lastOutcome (F : List Byte) (s : State) : (loadTx F s).lastOutcome = s.lastOutcome := rfl
@[simp] theorem loadTx_inputs (F : List Byte) (s : State) : (loadTx F s).inputs = s.inputs := rfl
@[simp] theorem loadTx_outputs (F : List Byte) (s : State) : (loadTx F s).outputs = s.outputs := rfl

@[simp] theorem resetStep_cfg (s : State) : (resetStep s).cfg = s.cfg := rfl
@[simp] theorem resetStep_bank (s : State) : (resetStep s).bank = s.cfg.bankInit := rfl
@[simp] theorem resetStep_phase (s : State) : (resetStep s).phase = .accum := rfl
@[simp] theorem resetStep_rxBuf (s : State) : (resetStep s).rxBuf = [] := rfl
@[simp] theorem resetStep_rxCnt (s : State) : (resetStep s).rxCnt = 0 := rfl
@[simp] theorem resetStep_txBuf (s : State) : (resetStep s).txBuf = [] := rfl
@[simp] theorem resetStep_txLen (s : State) : (resetStep s).txLen = 0 := rfl
@[simp] theorem resetStep_txIdx (s : State) : (resetStep s).txIdx = 0 := rfl
@[simp] theorem resetStep_xfail (s : State) : (resetStep s).xfail = 0 := rfl
@[simp] theorem resetStep_stopReq (s : State) : (resetStep s).stopReq = false := rfl
@[simp] theorem resetStep_lastOutcome (s : State) : (resetStep s).lastOutcome = .none := rfl
@[simp] theorem resetStep_inputs (s : State) : (resetStep s).inputs = s.inputs := rfl
@[simp] theorem resetStep_outputs (s : State) : (resetStep s).outputs = s.outputs := rfl

@[simp] theorem nextOf_next (s : State) : nextOf (.next s) = some s := rfl
@[simp] theorem idlePhase_emit (o : Output) (s : State) : idlePhase (emit o s) = idlePhase s := rfl
@[simp] theorem idlePhase_report (o : OutcomeCode) (s : State) : idlePhase (report o s) = idlePhase s := rfl
@[simp] theorem idlePhase_transportOk (s : State) : idlePhase (transportOk s) = idlePhase s := rfl
@[simp] theorem idlePhase_clearRx (s : State) : idlePhase (clearRx s) = idlePhase s := rfl
@[simp] theorem idlePhase_clearTx (s : State) : idlePhase (clearTx s) = idlePhase s := rfl
@[simp] theorem idlePhase_inputs (s : State) (es : List Event) :
    idlePhase { s with inputs := es } = idlePhase s := rfl
@[simp] theorem idlePhase_run (s : State) (h : s.stopReq = false) : idlePhase s = .accum := by simp [idlePhase, h]
@[simp] theorem idlePhase_stop (s : State) (h : s.stopReq = true) : idlePhase s = .stopped := by simp [idlePhase, h]

/-- `idle()` is one of two phases. -/
theorem idlePhase_cases (s : State) :
    (s.stopReq = false ∧ idlePhase s = .accum) ∨ (s.stopReq = true ∧ idlePhase s = .stopped) := by
  cases h : s.stopReq <;> simp [idlePhase, h]

end Sys2Proof.Machine
end

