-- ==== Sys2Proof/Laws/Ops.lean ====
section
/-! SUPPORT. One lemma per shared operation that says everything it can do: the bank operations, loading an
answer, raising an exception, admitting a request, decoding and the local port. -/

namespace Sys2Proof.Machine

/-- BANK_READ fails, or answers the burst; nothing else. -/
theorem bankRead_cases (n : Nat) (x : Bank) (start count : Word) :
    (bankRead n x start count = .error .outOfRange ∧ (count = 0#16 ∨ n < start.toNat + count.toNat)) ∨
    (bankRead n x start count = .ok (memRead x start.toNat count.toNat) ∧ count ≠ 0#16 ∧
      start.toNat + count.toNat ≤ n) := by
  unfold bankRead
  split_ifs with h
  · exact .inl ⟨rfl, h⟩
  · rw [not_or] at h; exact .inr ⟨rfl, h.1, by omega⟩

@[simp] theorem memRead_length (x : Bank) (a n : Nat) : (memRead x a n).length = n := by simp [memRead]

/-- BANK_WRITE fails, or answers the bank with the clipped values stored; nothing else. -/
theorem bankWrite_cases (n : Nat) (x : Bank) (start : Word) (vs : List Int) :
    (bankWrite n x start vs = .error .outOfRange ∧ n < start.toNat + vs.length) ∨
    (bankWrite n x start vs = .ok (memWrite x start.toNat (vs.map clip16)) ∧
      start.toNat + vs.length ≤ n) := by
  unfold bankWrite
  split_ifs with h
  · exact .inl ⟨rfl, h⟩
  · exact .inr ⟨rfl, by omega⟩

/-- BANK_WRITE keeps the canonical form of the bank. -/
theorem bankWrite_wf {n : Nat} {x y : Bank} {start : Word} {vs : List Int} (hx : Bank.wf n x = true)
    (h : bankWrite n x start vs = .ok y) : Bank.wf n y = true := by
  rcases bankWrite_cases n x start vs with ⟨h', -⟩ | ⟨h', hl⟩
  · rw [h'] at h; cases h
  · rw [h'] at h; cases h
    exact cellsWriteBurst_wf hx (by simpa using hl)

/-- Loading an answer that fits the transmit buffer. -/
theorem answer_fits {F : List Byte} (o : OutcomeCode) {s : State} (h : F.length ≤ s.cfg.txMax) :
    answer F o s = .next (report o (loadTx F s)) := by
  simp [answer, h]

/-- Loading an answer that does not fit stops by name. -/
theorem answer_too_long {F : List Byte} (o : OutcomeCode) {s : State} (h : s.cfg.txMax < F.length) :
    answer F o s = .fault (.noSuchTxByte s.cfg.txMax) := by
  simp [answer, Nat.not_le.2 h]

/-- Raising an exception always completes: five bytes fit every transmit buffer. -/
theorem raiseException_next (u f : Byte) (e : ModbusException) (s : State) :
    raiseException u f e s =
      .next (report e.outcome (loadTx (encodeException u (f ||| 0x80#8) e.wire) s)) :=
  answer_fits _ (by simp [Config.txMax])

/-- What an admitted RHR does: exception 0x02 out of range, the response in range; nothing else. In range the
frame fits, so it never stops. -/
theorem serveRhr_cases (u : Byte) (a n : Word) (s : State) :
    ((n = 0#16 ∨ s.cfg.n < a.toNat + n.toNat) ∧
      serveRhr u a n s =
        .next (report .excIllegalDataAddress (loadTx (encodeException u 0x83#8 0x02#8) s))) ∨
    (n ≠ 0#16 ∧ a.toNat + n.toNat ≤ s.cfg.n ∧
      serveRhr u a n s = .next (report .okResponse
        (loadTx (encodeResponse u 0x03#8 (byteCount n) (memRead s.bank a.toNat n.toNat)) s))) := by
  unfold serveRhr
  rcases bankRead_cases s.cfg.n s.bank a n with ⟨h, hr⟩ | ⟨h, hn, hr⟩
  · rw [h]; exact .inl ⟨hr, raiseException_next _ _ _ _⟩
  · rw [h]; exact .inr ⟨hn, hr, answer_fits _ (by simp [Config.txMax]; omega)⟩

/-- A request is dropped for its trailer, dropped for its unit id, or goes on; nothing else. -/
theorem admit_cases (u f : Byte) (a n c : Word) (k : State → Result) (s : State) :
    (verify (requestBody u f a n) c = false ∧
      admitRequest u f a n c k s = .next (drop .dropCrcMismatch (clearRx s))) ∨
    (verify (requestBody u f a n) c = true ∧ u ≠ s.cfg.unitId ∧
      admitRequest u f a n c k s = .next (drop .dropUnitIdMismatch (clearRx s))) ∨
    (verify (requestBody u f a n) c = true ∧ u = s.cfg.unitId ∧
      admitRequest u f a n c k s = k (clearRx s)) := by
  unfold admitRequest
  cases hv : verify (requestBody u f a n) c
  · simp
  · by_cases hu : u = s.cfg.unitId <;> simp [hu]

/-- DECODE of eight bytes, spelled out. -/
theorem decodeFrame_eight (b0 b1 b2 b3 b4 b5 b6 b7 : Byte) :
    decodeFrame [b0, b1, b2, b3, b4, b5, b6, b7] =
      if verify [b0, b1, b2, b3, b4, b5] (u16le b6 b7) then
        .ok { unitId := b0, functionCode := b1, startAddress := u16be b2 b3, registerCount := u16be b4 b5 }
      else .error .crcMismatch := by
  simp [decodeFrame]

/-- The receive buffer always holds eight bytes, by name. -/
theorem rxBytes_eq (s : State) : rxBytes s =
    [cellsRead s.rxBuf 0, cellsRead s.rxBuf 1, cellsRead s.rxBuf 2, cellsRead s.rxBuf 3,
     cellsRead s.rxBuf 4, cellsRead s.rxBuf 5, cellsRead s.rxBuf 6, cellsRead s.rxBuf 7] := rfl

/-- Every eight bytes are a request frame, RHR or ILLFN. -/
theorem decodeReq8_eight (b0 b1 b2 b3 b4 b5 b6 b7 : Byte) :
    decodeReq8 [b0, b1, b2, b3, b4, b5, b6, b7] =
      if b1 = 0x03#8 then .ok (.rhr b0 (u16be b2 b3) (u16be b4 b5) (u16le b6 b7))
      else .ok (.illfn b0 b1 (u16be b2 b3) (u16be b4 b5) (u16le b6 b7)) := rfl

/-- Fetching a request never fails. -/
theorem fetchRequest_ok (s : State) : ∃ i, fetchRequest s = .ok i := by
  unfold fetchRequest
  rw [rxBytes_eq, decodeReq8_eight]
  split_ifs
  · exact ⟨_, rfl⟩
  · exact ⟨_, rfl⟩

/-- Reading a canonical bank after a burst write: the values inside, the old registers outside. -/
theorem memWrite_read {n : Nat} {x : Bank} (hx : Bank.wf n x = true) (a : Nat) (vs : List Word) (i : Nat) :
    cellsRead (memWrite x a vs) i =
      if a ≤ i ∧ i < a + vs.length then vs.getD (i - a) 0#16 else cellsRead x i := by
  split_ifs with h
  · have := cellsRead_writeBurst_inside hx (a := a) (i := i - a) (vs := vs) (by omega) 0#16
    rwa [show a + (i - a) = i by omega] at this
  · exact cellsRead_writeBurst_outside x (by omega)

end Sys2Proof.Machine
end

