-- ==== Sys2Proof/Laws/PerInstr.lean ====
section
/-! SUPPORT. A per-instruction family: how many bytes or values an instruction's encoding has. -/

namespace Sys2Proof

/-- The number of bytes of an encoded frame; a local-port request counts its data words. -/
def Encoded.size : Encoded → Nat
  | .toHardware B => B.length
  | .fromHardware B => B.length
  | .port r => r.wdata.length

namespace Laws.EncodeLength

/-- R80: a request has 8 bytes, a success response `5 + 2 * count` bytes, an exception response 5 bytes; a
local read carries no data word and a local write one per value (R94). -/
def Statement (i : Instr) : Prop :=
  (encode i).size = match i with
    | .rhr _ _ _ _ => 8
    | .illfn _ _ _ _ _ => 8
    | .respRhr _ _ vs _ => 5 + 2 * vs.length
    | .respExc _ _ _ _ => 5
    | .bankRead _ _ => 0
    | .bankWrite _ vs => vs.length

theorem rhr (u : Byte) (a n c : Word) : Statement (.rhr u a n c) := rfl

theorem illfn (u f : Byte) (a n c : Word) : Statement (.illfn u f a n c) := rfl

theorem respRhr (u b : Byte) (vs : List Word) (c : Word) : Statement (.respRhr u b vs c) := by
  simp [Statement, encode, Encoded.size]
  omega

theorem respExc (u f e : Byte) (c : Word) : Statement (.respExc u f e c) := rfl

theorem bankRead (start count : Word) : Statement (.bankRead start count) := rfl

theorem bankWrite (start : Word) (values : List Int) : Statement (.bankWrite start values) := rfl

end Laws.EncodeLength

end Sys2Proof
end

