-- ==== Sys2Proof/Laws/Step.lean ====
section
/-! SUPPORT. What a step can do, said once: how it picks its event, and every way Exec, the local port and a
step can end. -/

namespace Sys2Proof.Machine

/-- A legal configuration, field by field (R8). -/
theorem legal_iff (c : Config) : c.legal = true ↔
    1 ≤ c.n ∧ c.n ≤ 127 ∧ 18 ≤ c.wIn ∧ Bank.wf c.n c.bankInit = true := by
  simp [Config.legal, and_assoc]

/-- A step takes the next event. -/
theorem step_event {s : State} {e : Event} {es : List Event} (hl : s.cfg.legal = true)
    (hi : s.inputs = e :: es) : step s = runEvent e { s with inputs := es } := by
  simp [step, hl, runNext, hi]

/-- With no input left a step is the internal step. -/
theorem step_internal {s : State} (hl : s.cfg.legal = true) (hi : s.inputs = []) : step s = internal s := by
  simp [step, hl, runNext, hi]

/-- An illegal configuration is refused. -/
theorem step_illegal {s : State} (hl : s.cfg.legal = false) : step s = .refused .illegalConfiguration := by
  simp [step, hl]

/-- Outside EXEC the internal step changes nothing. -/
theorem internal_idle {s : State} (h : s.phase ≠ .exec) : internal s = .next s := by
  simp [internal, h]

/-- Every way Exec can end: a drop, or a frame with a trailer loaded for transmission. It never stops. -/
theorem internal_cases {s : State} (h : s.phase = .exec) :
    (∃ o, (o = .dropCrcMismatch ∨ o = .dropUnitIdMismatch) ∧ internal s = .next (drop o (clearRx s))) ∨
    (∃ P o, 3 ≤ P.length ∧ P.length + 2 ≤ s.cfg.txMax ∧
      (o = .okResponse ∨ o = .excIllegalFunction ∨ o = .excIllegalDataAddress) ∧
      internal s = .next (report o (loadTx (withTrailer P) (clearRx s)))) := by
  have key : ∀ (u f : Byte) (a n c : Word) (k : State → Result),
      (∃ P o, 3 ≤ P.length ∧ P.length + 2 ≤ s.cfg.txMax ∧
        (o = .okResponse ∨ o = .excIllegalFunction ∨ o = .excIllegalDataAddress) ∧
        k (clearRx s) = .next (report o (loadTx (withTrailer P) (clearRx s)))) →
      (∃ o, (o = .dropCrcMismatch ∨ o = .dropUnitIdMismatch) ∧
        admitRequest u f a n c k s = .next (drop o (clearRx s))) ∨
      (∃ P o, 3 ≤ P.length ∧ P.length + 2 ≤ s.cfg.txMax ∧
        (o = .okResponse ∨ o = .excIllegalFunction ∨ o = .excIllegalDataAddress) ∧
        admitRequest u f a n c k s = .next (report o (loadTx (withTrailer P) (clearRx s)))) := by
    rintro u f a n c k ⟨P, o, h1, h2, h3, h4⟩
    rcases admit_cases u f a n c k s with ⟨-, h'⟩ | ⟨-, -, h'⟩ | ⟨-, -, h'⟩
    · exact .inl ⟨_, .inl rfl, h'⟩
    · exact .inl ⟨_, .inr rfl, h'⟩
    · exact .inr ⟨P, o, h1, h2, h3, h'.trans h4⟩
  have hx : 5 ≤ s.cfg.txMax := by simp [Config.txMax]
  unfold internal
  rw [if_pos h]
  unfold fetchRequest
  rw [rxBytes_eq, decodeReq8_eight]
  split_ifs
  · refine key _ _ _ _ _ (serveRhr _ _ _) ?_
    rcases serveRhr_cases (cellsRead s.rxBuf 0) (u16be (cellsRead s.rxBuf 2) (cellsRead s.rxBuf 3))
      (u16be (cellsRead s.rxBuf 4) (cellsRead s.rxBuf 5)) (clearRx s) with ⟨-, h'⟩ | ⟨-, hr, h'⟩
    · exact ⟨_, _, by simp [exceptionBody], by simpa [exceptionBody] using hx, .inr (.inr rfl), h'⟩
    · exact ⟨_, _, by simp, by simp [Config.txMax] at hr ⊢; omega, .inl rfl, h'⟩
  · exact key _ _ _ _ _ (raiseException _ _ _)
      ⟨_, _, by simp [exceptionBody], by simpa [exceptionBody] using hx, .inr (.inl rfl),
        raiseException_next _ _ _ _⟩

/-- The local port refuses what cannot be presented, or answers, touching only the bank. -/
theorem localPort_cases (r : LocRequest) (s : State) :
    localPort r s = .refused .notPresentable ∨
    (∃ vs, r.op = false ∧ localPort r s = .next (emit (.loc true vs) s)) ∨
    (localPort r s = .next (emit (.loc false []) s)) ∨
    (∃ x, r.op = true ∧ bankWrite s.cfg.n s.bank r.start r.wdata = .ok x ∧
      localPort r s = .next (emit (.loc true []) { s with bank := x })) := by
  unfold localPort decodePort
  cases hop : r.op with
  | false =>
    right
    simp only [Bool.false_eq_true, if_false, Instr.wellFormed, if_true]
    rcases bankRead_cases s.cfg.n s.bank r.start r.len with ⟨h, -⟩ | ⟨h, -⟩
    · right; left; show execBankRead _ _ _ = _; unfold execBankRead; rw [h]
    · left; exact ⟨_, trivial, by show execBankRead _ _ _ = _; unfold execBankRead; rw [h]⟩
  | true =>
    simp only [if_true]
    split_ifs with hlen
    · dsimp only
      split_ifs with hw
      · rcases bankWrite_cases s.cfg.n s.bank r.start r.wdata with ⟨h, -⟩ | ⟨h, -⟩
        · right; right; left; show execBankWrite _ _ _ = _; unfold execBankWrite; rw [h]
        · right; right; right
          exact ⟨_, trivial, h, by show execBankWrite _ _ _ = _; unfold execBankWrite; rw [h]⟩
      · left; rfl
    · left; rfl

/-- Every way a step can answer a next state. -/
theorem step_next_cases {s t : State} (h : step s = .next t) : s.cfg.legal = true ∧
    ((s.inputs = [] ∧ internal s = .next t) ∨
      ∃ e es, s.inputs = e :: es ∧ runEvent e { s with inputs := es } = .next t) := by
  cases hl : s.cfg.legal
  · rw [step_illegal hl] at h; cases h
  · refine ⟨rfl, ?_⟩
    cases hi : s.inputs with
    | nil => rw [step_internal hl hi] at h; exact .inl ⟨rfl, h⟩
    | cons e es => rw [step_event hl hi] at h; exact .inr ⟨e, es, rfl, h⟩

end Sys2Proof.Machine
end

