-- ==== Sys2Proof/Tests/Slice0.lean ====
section
/-! SUPPORT. Tests of one step each, against the spec's own vectors (spec/95_test_vectors.md, V1 to V15 and P1
to P5), and a witness for the hypotheses of every obligation that has any. -/

namespace Sys2Proof.Tests

-- One theorem after the other: each kernel evaluation waits for those before it, and threads that wait hold memory.
set_option Elab.async false

open Sys2Proof.Machine

/-! ### States to test on -/

/-- The bank of the source's scenario 1, 'Bank S1' of spec/95. -/
def bankS1 : Bank :=
  [(0, 2024#16), (1, 1#16), (2, 15#16), (3, 10#16), (4, 30#16), (6, 205#16), (7, 621#16), (8, 134#16),
   (9, 1800#16), (10, 12#16)]

/-- The configuration of spec/95: N = 11, UNIT_ID = 1, BANK_INIT = Bank S1. -/
def cfgS1 : Config := { n := 11, unitId := 1#8, wIn := 32, bankInit := bankS1 }

/-- Waiting for bytes, with the given bytes already received. -/
def accum (B : List Byte) (es : List Event) : State :=
  { State.boot cfgS1 with rxBuf := cellsWriteBurst [] 0 B, rxCnt := B.length, inputs := es }

/-- The eight bytes of a request received, Exec about to run. -/
def ready (B : List Byte) (es : List Event) : State := { accum B es with phase := .exec }

/-- `RHR 1, 0, 11` (V1). -/
def bytesV1 : List Byte := [0x01#8, 0x03#8, 0x00#8, 0x00#8, 0x00#8, 0x0B#8, 0x04#8, 0x0D#8]

/-- V1 with one bit of the trailer flipped (V5). -/
def bytesV5 : List Byte := [0x01#8, 0x03#8, 0x00#8, 0x00#8, 0x00#8, 0x0B#8, 0x04#8, 0x0C#8]

/-- The answer to `RHR 1, 6, 2` (V14). -/
def bytesV14 : List Byte := [0x01#8, 0x03#8, 0x04#8, 0x00#8, 0xCD#8, 0x02#8, 0x6D#8, 0xAB#8, 0x41#8]

/-- Exception 0x02 (V3). -/
def bytesV3 : List Byte := [0x01#8, 0x83#8, 0x02#8, 0xC0#8, 0xF1#8]

/-- Sending an exception response from byte `i` on. -/
def sending (i : Nat) (es : List Event) : State :=
  { State.boot cfgS1 with txBuf := cellsWriteBurst [] 0 bytesV3, txLen := 5, txIdx := i, phase := .respond,
                          inputs := es }

/-- Stopped after a shutdown. -/
def halted (es : List Event) : State :=
  { State.boot cfgS1 with phase := .stopped, stopReq := true, inputs := es }

/-- After three transport failures. -/
def broken (es : List Event) : State := { State.boot cfgS1 with phase := .fatal, xfail := 3, inputs := es }

/-- A property of the state a result answers; false of a fault and a refusal. -/
def Holds (r : Result) (p : State → Bool) : Bool :=
  match r with
  | .next s => p s
  | .fault _ => false
  | .refused _ => false

/-! ### WellFormed smoke: a term each check refuses -/

theorem test_wf_rhr_trailer : Instr.wellFormed cfgS1 (.rhr 1#8 0#16 11#16 0x040D#16) = false := by decide +kernel
theorem test_wf_illfn_code3 : Instr.wellFormed cfgS1 (.illfn 1#8 3#8 0#16 11#16 0x0D04#16) = false := by
  decide +kernel
theorem test_wf_illfn_trailer : Instr.wellFormed cfgS1 (.illfn 1#8 6#8 0#16 1#16 0x0000#16) = false := by
  decide +kernel
theorem test_wf_resp_none : Instr.wellFormed cfgS1 (.respRhr 1#8 0#8 [] (crc16 [1#8, 3#8, 0#8])) = false := by
  decide +kernel
theorem test_wf_resp_many : Instr.wellFormed { cfgS1 with n := 1 }
    (.respRhr 1#8 4#8 [205#16, 621#16] 0x41AB#16) = false := by decide +kernel
theorem test_wf_resp_byte_count : Instr.wellFormed cfgS1
    (.respRhr 1#8 2#8 [205#16, 621#16] (crc16 [1#8, 3#8, 2#8, 0#8, 0xCD#8, 2#8, 0x6D#8])) = false := by
  decide +kernel
theorem test_wf_resp_trailer : Instr.wellFormed cfgS1 (.respRhr 1#8 4#8 [205#16, 621#16] 0#16) = false := by
  decide +kernel
theorem test_wf_exc_bit7 : Instr.wellFormed cfgS1 (.respExc 1#8 3#8 2#8 (crc16 [1#8, 3#8, 2#8])) = false := by
  decide +kernel
theorem test_wf_exc_code : Instr.wellFormed cfgS1 (.respExc 1#8 0x83#8 3#8 (crc16 [1#8, 0x83#8, 3#8])) = false := by
  decide +kernel
theorem test_wf_exc_trailer : Instr.wellFormed cfgS1 (.respExc 1#8 0x83#8 2#8 0#16) = false := by decide +kernel
theorem test_wf_write_width : Instr.wellFormed { cfgS1 with wIn := 18 } (.bankWrite 0#16 [131072]) = false ∧
    Instr.wellFormed { cfgS1 with wIn := 18 } (.bankWrite 0#16 [-131073]) = false := by decide
theorem test_wf_write_count (vs : List Int) (h : vs.length = 65536) :
    Instr.wellFormed cfgS1 (.bankWrite 0#16 vs) = false := by
  simp [Instr.wellFormed, h]

/-- R8: configurations outside their range. -/
theorem test_cfg_illegal :
    Config.legal { cfgS1 with n := 0, bankInit := [] } = false ∧ Config.legal { cfgS1 with n := 128 } = false ∧
    Config.legal { cfgS1 with wIn := 17 } = false ∧ Config.legal { cfgS1 with bankInit := [(11, 1#16)] } = false ∧
    step { State.reset with cfg := { cfgS1 with n := 0 } } = .refused .illegalConfiguration :=
  ⟨by decide, by decide, by decide, by decide, rfl⟩

/-! ### CRC (V9) -/

theorem test_crc_short : crc16 [] = 0xFFFF#16 ∧ crc16 [0x01#8] = 0x807E#16 ∧ crc16 [0x00#8] = 0x40BF#16 := by
  decide +kernel
theorem test_crc_check_string :
    crc16 [0x31#8, 0x32#8, 0x33#8, 0x34#8, 0x35#8, 0x36#8, 0x37#8, 0x38#8, 0x39#8] = 0x4B37#16 := by
  decide +kernel
theorem test_verify_byte_order : verify (bytesV1.take 6) 0x0D04#16 = true ∧
    verify (bytesV1.take 6) 0x040D#16 = false := by decide +kernel

/-! ### Decoding: words written out from the spec's vectors -/

/-- V10: lengths first, then the trailer, then fields; byte 6 of nine is ignored. -/
theorem test_decode_frame :
    decodeFrame bytesV3 = .error .frameTooShort ∧
    decodeFrame [0x01#8, 0x03#8, 0x00#8, 0x00#8, 0x00#8, 0x0B#8, 0x0D#8, 0x04#8] = .error .crcMismatch ∧
    decodeFrame [0x01#8, 0x03#8, 0x01#8, 0x2C#8, 0x00#8, 0x02#8, 0x04#8, 0x3E#8] = .ok ⟨1#8, 3#8, 300#16, 2#16⟩ ∧
    decodeFrame [0x01#8, 0x03#8, 0x00#8, 0x00#8, 0x00#8, 0x01#8, 0xAA#8, 0x8A#8, 0x1C#8] =
      .ok ⟨1#8, 3#8, 0#16, 1#16⟩ := by decide +kernel

/-- V10, RHR: the start address 0x012C is big-endian and the trailer little-endian. -/
theorem test_decode_rhr : decode (.toHardware [0x01#8, 0x03#8, 0x01#8, 0x2C#8, 0x00#8, 0x02#8, 0x04#8, 0x3E#8]) =
    .ok (.rhr 1#8 300#16 2#16 0x3E04#16) := by decide

/-- V11, ILLFN. -/
theorem test_decode_illfn : decode (.toHardware [0x01#8, 0x10#8, 0x00#8, 0x00#8, 0x00#8, 0x01#8, 0x01#8, 0xC9#8]) =
    .ok (.illfn 1#8 0x10#8 0#16 1#16 0xC901#16) := by decide

/-- V14, RESP_RHR. -/
theorem test_decode_respRhr : decode (.fromHardware bytesV14) = .ok (.respRhr 1#8 4#8 [205#16, 621#16] 0x41AB#16) := by
  decide

/-- V4, RESP_EXC. -/
theorem test_decode_respExc : decode (.fromHardware [0x01#8, 0x86#8, 0x01#8, 0x83#8, 0xA0#8]) =
    .ok (.respExc 1#8 0x86#8 1#8 0xA083#16) := by decide

/-- R94, the local port: `loc_op` 0 reads, 1 writes; a write needs `loc_len` values. -/
theorem test_decode_port :
    decode (.port { op := false, start := 11#16, len := 2#16, wdata := [] }) = .ok (.bankRead 11#16 2#16) ∧
    decode (.port { op := true, start := 11#16, len := 2#16, wdata := [1, 2] }) = .ok (.bankWrite 11#16 [1, 2]) ∧
    decode (.port { op := true, start := 11#16, len := 2#16, wdata := [1] }) = .error .wdataCount := by decide

/-- Byte strings of no row's shape are refused by name. -/
theorem test_decode_refuses :
    decode (.toHardware (bytesV1.take 7)) = .error .frameTooShort ∧
    decode (.toHardware (bytesV1 ++ [0#8])) = .error .frameTooLong ∧
    decode (.fromHardware [1#8, 0x83#8, 2#8, 0#8]) = .error .outputLength ∧
    decode (.fromHardware [1#8, 0x03#8, 3#8, 0#8, 0#8, 0#8, 0#8]) = .error .outputByteCount ∧
    decode (.fromHardware [1#8, 0x04#8, 0#8, 0#8, 0#8]) = .error .outputFunction := by decide

/-- The opcode table's words: V1 as a number with byte 0 most significant, V3, an empty response header, and
the local port's `loc_op`. -/
theorem test_table_words :
    decodeTableWord 64 0x01030000000B040D = some (.rhr 1#8 0#16 11#16 0x0D04#16) ∧
    decodeTableWord 64 0x010600000001480A = some (.illfn 1#8 6#8 0#16 1#16 0x0A48#16) ∧
    decodeTableWord 40 0x018302C0F1 = some (.respExc 1#8 0x83#8 2#8 0xF1C0#16) ∧
    decodeTableWord 24 0x010302 = some (.respRhr 1#8 2#8 [0#16] 0#16) ∧
    decodeTableWord 8 0 = some (.bankRead 0#16 0#16) ∧ decodeTableWord 8 1 = some (.bankWrite 0#16 []) ∧
    decodeTableWord 12 0 = none := by decide

/-! ### One step of each instruction -/

/-- V13: `RHR 1, 10, 1` = `01 03 00 0A 00 01 A4 08` is answered `01 03 02 00 0C B8 41`. -/
theorem test_rhr_last_register :
    Holds (step (ready [0x01#8, 0x03#8, 0x00#8, 0x0A#8, 0x00#8, 0x01#8, 0xA4#8, 0x08#8] []))
      (fun t => txFrame t == [0x01#8, 0x03#8, 0x02#8, 0x00#8, 0x0C#8, 0xB8#8, 0x41#8] &&
        t.lastOutcome == .okResponse) = true := by decide +kernel

/-- V13: `RHR 1, 65535, 2`: the sum 65537 does not wrap to 1. -/
theorem test_rhr_sum_does_not_wrap :
    Holds (step (ready [0x01#8, 0x03#8, 0xFF#8, 0xFF#8, 0x00#8, 0x02#8, 0xC4#8, 0x2F#8] []))
      (fun t => txFrame t == bytesV3 && t.lastOutcome == .excIllegalDataAddress) = true := by decide +kernel

/-- V11: function code 0x83 is answered with function byte 0x83 and code 0x01. -/
theorem test_illfn_bit7_already_set :
    Holds (step (ready [0x01#8, 0x83#8, 0x00#8, 0x00#8, 0x00#8, 0x01#8, 0x85#8, 0xD4#8] []))
      (fun t => txFrame t == [0x01#8, 0x83#8, 0x01#8, 0x80#8, 0xF0#8] &&
        t.lastOutcome == .excIllegalFunction) = true := by decide +kernel

/-- V11: `REQ 2, 6, 0, 1`: the unit id is checked before the function code; nothing is sent. -/
theorem test_illfn_other_unit :
    Holds (step (ready [0x02#8, 0x06#8, 0x00#8, 0x00#8, 0x00#8, 0x01#8, 0x48#8, 0x39#8] []))
      (fun t => t.txLen == 0 && t.phase == .accum && t.rxCnt == 0 &&
        t.lastOutcome == .dropUnitIdMismatch) = true := by decide +kernel

/-- V14: the values 0x0000, 0x7FFF, 0x8000, 0xFFFF are sent as stored. -/
theorem test_respRhr_unsigned_values :
    Holds (exec (.respRhr 1#8 8#8 [0x0000#16, 0x7FFF#16, 0x8000#16, 0xFFFF#16] 0#16) (State.boot cfgS1))
      (fun t => txFrame t == [0x01#8, 0x03#8, 0x08#8, 0x00#8, 0x00#8, 0x7F#8, 0xFF#8, 0x80#8, 0x00#8, 0xFF#8,
        0xFF#8, 0xA2#8, 0x7C#8]) = true := by decide +kernel

/-- V11: the exception frame of unit 1, function byte 0x80, code 0x01. -/
theorem test_respExc_frame :
    Holds (exec (.respExc 1#8 0x80#8 1#8 0#16) (State.boot cfgS1))
      (fun t => txFrame t == [0x01#8, 0x80#8, 0x01#8, 0x80#8, 0x00#8] &&
        t.lastOutcome == .excIllegalFunction) = true := by decide +kernel

/-- V12: `BANK_READ(11, 1)` of N = 12 answers the last register, `BANK_READ(11, 2)` fails. -/
theorem test_bankRead_edge :
    Holds (step { State.reset with bank := [(11, 7#16)], inputs := [.loc (readRequest 11#16 1#16)] })
      (fun t => t.outputs == [.loc true [7#16]]) = true ∧
    Holds (step { State.reset with bank := [(11, 7#16)], inputs := [.loc (readRequest 11#16 2#16)] })
      (fun t => t.outputs == [.loc false []]) = true := by decide

/-- V12: `BANK_WRITE(1, [65535, 65536, -1, 0])` clips each value. -/
theorem test_bankWrite_clips :
    Holds (step { State.reset with inputs := [.loc (writeRequest 1#16 [65535, 65536, -1, 0])] })
      (fun t => t.bank == [(1, 65535#16), (2, 65535#16)] && t.outputs == [.loc true []]) = true := by decide

/-- V12: `BANK_WRITE(11, [1, 2])` writes nothing; `BANK_WRITE(12, [])` succeeds; `BANK_WRITE(13, [])` fails. -/
theorem test_bankWrite_all_or_nothing :
    Holds (step { State.reset with inputs := [.loc (writeRequest 11#16 [1, 2])] })
      (fun t => t.bank == [] && t.outputs == [.loc false []]) = true ∧
    Holds (step { State.reset with inputs := [.loc (writeRequest 12#16 [])] })
      (fun t => t.outputs == [.loc true []]) = true ∧
    Holds (step { State.reset with inputs := [.loc (writeRequest 13#16 [])] })
      (fun t => t.outputs == [.loc false []]) = true := by decide

/-- A word of the opcode table, placed at reset, runs as the next step: V1 under N = 12 reads eleven zeros. -/
theorem test_withFetchWord :
    Holds (step (State.reset.withFetchWord 64 0x01030000000B040D))
      (fun t => t.lastOutcome == .okResponse && t.txLen == 27) = true ∧
    Holds (step (State.reset.withFetchWord 40 0x018302C0F1))
      (fun t => sentBytes t == [(0x01#8, false)]) = true ∧
    Holds (step (State.reset.withFetchWord 8 0)) (fun t => t.outputs == [.loc false []]) = true := by
  decide +kernel

/-! ### One step of the sequencer (V15) -/

theorem test_timeout :
    Holds (step (accum (bytesV1.take 3) [.rxTimeout]))
      (fun t => t.rxCnt == 0 && t.outputs == [.diag .dropFrameTooShort]) = true ∧
    Holds (step (accum [] [.rxTimeout])) (fun t => t.outputs == []) = true := by decide +kernel

theorem test_eighth_byte :
    Holds (step (accum (bytesV1.take 7) [.rxByte 0x0D#8]))
      (fun t => t.phase == .exec && rxBytes t == bytesV1) = true := by decide +kernel

theorem test_xport_err :
    Holds (step (sending 2 [.xportErr]))
      (fun t => t.phase == .accum && t.txLen == 0 && t.txIdx == 0 && t.xfail == 1) = true ∧
    Holds (step { accum [] [.xportErr] with xfail := 2 }) (fun t => t.phase == .fatal && t.xfail == 3) = true := by
  decide +kernel

theorem test_shutdown :
    Holds (step (accum (bytesV1.take 1) [.shutdown]))
      (fun t => t.phase == .stopped && t.rxCnt == 0 && t.lastOutcome == .dropFrameTooShort) = true ∧
    Holds (step { sending 4 [.txReady] with stopReq := true })
      (fun t => t.phase == .stopped && sentBytes t == [(0xF1#8, true)]) = true := by decide +kernel

/-- R237: a byte offered with the transport's last `tx_ready` is no event of that clock, since `rx_ready` is 0 in
it; offered in ACCUM it is. -/
theorem test_clock_byte_needs_ready :
    InputCycle.events ⟨false, some 1#8, false, false, true, false, none⟩ (sending 4 []) = [.txReady] ∧
    InputCycle.events ⟨false, some 1#8, false, false, true, false, none⟩ (accum [] []) = [.rxByte 1#8] := by decide

/-- STOPPED: the local port still serves (V15, last row). -/
theorem test_local_port_when_stopped :
    Holds (step (halted [.loc (writeRequest 0#16 [7])]))
      (fun t => cellsRead t.bank 0 == 7#16 && t.phase == .stopped) = true := by decide

/-- Writing zero removes the entry; writing keeps addresses rising. -/
theorem test_cells_canonical :
    cellsWrite [(2, 5#8), (4, 6#8)] 2 0#8 = [(4, 6#8)] ∧
    cellsWrite [(2, 5#8), (4, 6#8)] 3 9#8 = [(2, 5#8), (3, 9#8), (4, 6#8)] := by decide

theorem test_reset_canonical :
    Bank.wf State.reset.cfg.n State.reset.bank = true ∧ Memory.wf 8 State.reset.rxBuf = true ∧
    Memory.wf State.reset.cfg.txMax State.reset.txBuf = true := by decide

/-! ### The witnesses' states meet the invariants -/

/-- The invariants say nothing of the inputs to come. -/
theorem inv_inputs {s : State} (es : List Event) (h : s.Inv) : ({ s with inputs := es } : State).Inv :=
  ⟨h.1, h.2, h.3, h.4, h.5, h.6, h.7, h.8, h.9, h.10, h.11, h.12, h.13, h.14, h.15, h.16⟩

theorem inv_accum (es : List Event) : (accum [] es).Inv :=
  inv_inputs es (s := accum [] []) (by constructor <;> decide +kernel)
theorem inv_accum3 (es : List Event) : (accum (bytesV1.take 3) es).Inv :=
  inv_inputs es (s := accum (bytesV1.take 3) []) (by constructor <;> decide +kernel)
theorem inv_accum7 (es : List Event) : (accum (bytesV1.take 7) es).Inv :=
  inv_inputs es (s := accum (bytesV1.take 7) []) (by constructor <;> decide +kernel)
theorem inv_ready (es : List Event) : (ready bytesV1 es).Inv :=
  inv_inputs es (s := ready bytesV1 []) (by constructor <;> decide +kernel)
theorem inv_readyV5 (es : List Event) : (ready bytesV5 es).Inv :=
  inv_inputs es (s := ready bytesV5 []) (by constructor <;> decide +kernel)
theorem inv_sending (es : List Event) : (sending 3 es).Inv :=
  inv_inputs es (s := sending 3 []) (by constructor <;> decide +kernel)
theorem inv_sending4 (es : List Event) : (sending 4 es).Inv :=
  inv_inputs es (s := sending 4 []) (by constructor <;> decide +kernel)
theorem inv_halted (es : List Event) : (halted es).Inv :=
  inv_inputs es (s := halted []) (by constructor <;> decide +kernel)
theorem inv_broken (es : List Event) : (broken es).Inv :=
  inv_inputs es (s := broken []) (by constructor <;> decide +kernel)

/-- A result whose next state has a property is a next state. -/
theorem next_of_holds {r : Result} {p : State → Bool} (h : Holds r p = true) : ∃ t, r = .next t ∧ p t = true := by
  cases r with
  | next s => exact ⟨s, rfl, h⟩
  | fault f => cases h
  | refused f => cases h

/-- The step of a state answers a next state. -/
def Runs (s : State) : Prop := ∃ t, step s = .next t

theorem runs_of {s : State} (h : Holds (step s) (fun _ => true) = true) : Runs s := by
  obtain ⟨t, h, -⟩ := next_of_holds h
  exact ⟨t, h⟩

/-! ### Witnesses: for each obligation with hypotheses, a concrete instance that meets them all, per clause -/

theorem witness_CrcTableFormAgreesWithBitSerial : 0 < 256 ∧ 255 < 256 := by decide

theorem witness_CrcDetectsEverySingleBitFlip : (0 < 8 ∧ 7 < 8) ∧ (0 < 16 ∧ 15 < 16) := by decide

theorem witness_DecodeOfEncodeIsIdentity :
    cfgS1.legal = true ∧ Instr.wellFormed cfgS1 (.rhr 1#8 0#16 11#16 0x0D04#16) = true ∧
    Instr.wellFormed cfgS1 (.illfn 1#8 6#8 0#16 1#16 0x0A48#16) = true ∧
    Instr.wellFormed cfgS1 (.respRhr 1#8 4#8 [205#16, 621#16] 0x41AB#16) = true ∧
    Instr.wellFormed cfgS1 (.respExc 1#8 0x83#8 2#8 0xF1C0#16) = true ∧
    Instr.wellFormed cfgS1 (.bankRead 65535#16 0#16) = true ∧
    Instr.wellFormed { cfgS1 with wIn := 18 } (.bankWrite 0#16 [131071, -131072]) = true := by decide +kernel

theorem witness_DecodeChecksLengthThenCrc :
    (bytesV1.take 7).length < 8 ∧ ([] : List Byte).length < 8 ∧
    6 ≤ (bytesV1.take 6).length ∧ crc16 (bytesV1.take 6) ≠ 0x040D#16 := by decide +kernel

theorem witness_EncodedFramesValidate :
    (∃ u f b vs, bytesV14 = encodeResponse u f b vs) ∧ (∃ u f e, bytesV3 = encodeException u f e) :=
  ⟨⟨1#8, 3#8, 4#8, [205#16, 621#16], by decide +kernel⟩, ⟨1#8, 3#8, 2#8, by decide +kernel⟩⟩

theorem witness_EncodedFieldsStandAtTheirPositions :
    (4#8 : Byte).toNat = 2 * [205#16, 621#16].length ∧ 1 < (4#8 : Byte).toNat / 2 ∧
    (0#8 : Byte).toNat = 2 * ([] : List Word).length ∧
    encodeException 1#8 3#8 2#8 = encodeException 1#8 0x83#8 2#8 := by decide +kernel

theorem witness_RhrInRangeAnswersTheRegisters :
    (ready bytesV1 []).cfg.legal = true ∧ Memory.wf (ready bytesV1 []).cfg.txMax (ready bytesV1 []).txBuf = true ∧
    verify (requestBody 1#8 0x03#8 0#16 11#16) 0x0D04#16 = true ∧ 1#8 = (ready bytesV1 []).cfg.unitId ∧
    11#16 ≠ 0#16 ∧ (0#16 : Word).toNat + (11#16 : Word).toNat ≤ (ready bytesV1 []).cfg.n := by decide +kernel

/-- V13: `RHR 1, 11, 0` by the count, `RHR 1, 10, 2` by the range. -/
theorem witness_RhrOutOfRangeAnswersIllegalDataAddress :
    Memory.wf (accum [] []).cfg.txMax (accum [] []).txBuf = true ∧ 1#8 = (accum [] []).cfg.unitId ∧
    verify (requestBody 1#8 0x03#8 11#16 0#16) 0x0834#16 = true ∧ (0#16 : Word) = 0#16 ∧
    verify (requestBody 1#8 0x03#8 10#16 2#16) 0x09E4#16 = true ∧
    (accum [] []).cfg.n < (10#16 : Word).toNat + (2#16 : Word).toNat := by decide +kernel

theorem witness_IllfnAnswersIllegalFunction :
    Memory.wf (accum [] []).cfg.txMax (accum [] []).txBuf = true ∧ 1#8 = (accum [] []).cfg.unitId ∧
    verify (requestBody 1#8 6#8 0#16 1#16) 0x0A48#16 = true ∧ (6#8 : Byte) ≠ 0x03#8 := by decide +kernel

theorem witness_UnadmittedRequestsAreDropped :
    verify (requestBody 1#8 0x03#8 0#16 11#16) 0x0C04#16 = false ∧
    verify (requestBody 2#8 6#8 0#16 1#16) 0x3948#16 = true ∧ (2#8 : Byte) ≠ (accum [] []).cfg.unitId := by
  decide +kernel

theorem witness_RequestsKeepEverythingElse :
    (∃ t, exec (.rhr 1#8 0#16 11#16 0x0D04#16) (ready bytesV1 []) = .next t) ∧
    (∃ t, exec (.illfn 1#8 6#8 0#16 1#16 0x0A48#16) (ready bytesV1 []) = .next t) := by
  refine ⟨?_, ?_⟩
  · obtain ⟨t, h, -⟩ := next_of_holds
      (show Holds (exec (.rhr 1#8 0#16 11#16 0x0D04#16) (ready bytesV1 [])) (fun _ => true) = true by decide +kernel)
    exact ⟨t, h⟩
  · obtain ⟨t, h, -⟩ := next_of_holds
      (show Holds (exec (.illfn 1#8 6#8 0#16 1#16 0x0A48#16) (ready bytesV1 [])) (fun _ => true) = true by
        decide +kernel)
    exact ⟨t, h⟩

theorem witness_ExecReportsTheFirstOutcomeInOrder :
    (ready bytesV1 []).cfg.legal = true ∧ (ready bytesV1 []).phase = .exec ∧
    (ready bytesV1 []).inputs.head?.getD .internal = .internal ∧
    (ready bytesV1 [.internal]).inputs.head?.getD .internal = .internal := by decide

theorem witness_RespRhrLoadsItsFrame :
    Memory.wf (sending 3 []).cfg.txMax (sending 3 []).txBuf = true ∧
    (List.replicate 11 0#16).length ≤ (sending 3 []).cfg.n := by decide

theorem witness_RespExcLoadsItsFrame : Memory.wf (sending 3 []).cfg.txMax (sending 3 []).txBuf = true := by decide

theorem witness_WellFormedOutputIsLoadedAsEncoded :
    Memory.wf (accum [] []).cfg.txMax (accum [] []).txBuf = true ∧
    Instr.wellFormed (accum [] []).cfg (.respRhr 1#8 4#8 [205#16, 621#16] 0x41AB#16) = true ∧
    encode (.respRhr 1#8 4#8 [205#16, 621#16] 0x41AB#16) = .fromHardware bytesV14 ∧
    Holds (exec (.respRhr 1#8 4#8 [205#16, 621#16] 0x41AB#16) (accum [] [])) (fun _ => true) = true ∧
    Instr.wellFormed (accum [] []).cfg (.respExc 1#8 0x83#8 2#8 0xF1C0#16) = true ∧
    encode (.respExc 1#8 0x83#8 2#8 0xF1C0#16) = .fromHardware bytesV3 ∧
    Holds (exec (.respExc 1#8 0x83#8 2#8 0xF1C0#16) (accum [] [])) (fun _ => true) = true := by decide +kernel

theorem witness_RespRhrTooLongStops : (accum [] []).cfg.n < (List.replicate 12 0#16).length := by decide

theorem witness_RequestsRunTheOutputFormats :
    1#8 = (ready bytesV1 []).cfg.unitId ∧
    (verify (requestBody 1#8 0x03#8 0#16 11#16) 0x0D04#16 = true ∧ 11#16 ≠ 0#16 ∧
      (0#16 : Word).toNat + (11#16 : Word).toNat ≤ (ready bytesV1 []).cfg.n) ∧
    (verify (requestBody 1#8 0x03#8 10#16 2#16) 0x09E4#16 = true ∧
      (ready bytesV1 []).cfg.n < (10#16 : Word).toNat + (2#16 : Word).toNat) ∧
    verify (requestBody 1#8 6#8 0#16 1#16) 0x0A48#16 = true := by decide +kernel

theorem witness_BankReadReturnsTheBurst :
    (0#16 : Word) = 0#16 ∧ State.reset.cfg.n < (11#16 : Word).toNat + (2#16 : Word).toNat ∧
    (12#16 : Word) ≠ 0#16 ∧ (0#16 : Word).toNat + (12#16 : Word).toNat ≤ State.reset.cfg.n := by decide

theorem witness_BankReadBoundaryTable : (1 ≤ 1 ∧ 1 ≤ 127) ∧ (1 ≤ 127 ∧ 127 ≤ 127) := by decide

theorem witness_BankWriteStoresClippedValues :
    Bank.wf State.reset.cfg.n State.reset.bank = true ∧
    State.reset.cfg.n < (11#16 : Word).toNat + ([1, 2] : List Int).length ∧
    (11#16 : Word).toNat + ([1] : List Int).length ≤ State.reset.cfg.n ∧
    (12#16 : Word).toNat + ([] : List Int).length ≤ State.reset.cfg.n := by decide

theorem witness_LocalPortTouchesOnlyTheBank :
    (halted []).cfg.legal = true ∧
    (halted [.loc (writeRequest 0#16 [7])]).inputs = [.loc (writeRequest 0#16 [7])] ∧
    decodePort (writeRequest 0#16 [7]) = .ok (.bankWrite 0#16 [7]) ∧
    Instr.wellFormed cfgS1 (.bankWrite 0#16 [7]) = true ∧
    decodePort (readRequest 0#16 7#16) = .ok (.bankRead 0#16 7#16) ∧
    Instr.wellFormed cfgS1 (.bankRead 0#16 7#16) = true := by decide

theorem witness_RacingReadIsOldOrNew :
    (ready bytesV1 []).Inv ∧ (ready bytesV1 []).phase = .exec ∧
    fetchRequest (ready bytesV1 []) = .ok (.rhr 1#8 0#16 11#16 0x0D04#16) ∧
    1#8 = (ready bytesV1 []).cfg.unitId ∧ verify (requestBody 1#8 0x03#8 0#16 11#16) 0x0D04#16 = true ∧
    11#16 ≠ 0#16 ∧ (0#16 : Word).toNat + (11#16 : Word).toNat ≤ (ready bytesV1 []).cfg.n ∧
    (9#16 : Word).toNat + ([31, 207] : List Int).length ≤ (ready bytesV1 []).cfg.n ∧
    Instr.wellFormed (ready bytesV1 []).cfg (.bankWrite 9#16 [31, 207]) = true :=
  ⟨inv_ready [], by decide +kernel⟩

/-- The sample of the source's scenario 1 (V12, first row). -/
def sample : RefreshFields := ⟨2024, 1, 15, 10, 30, 0, 205, 621, 134, 1800, 12⟩

theorem witness_RefreshWritesElevenRegisters :
    (accum [] (refreshCycle (some sample))).cfg.legal = true ∧ Bank.wf 11 bankS1 = true ∧
    (∀ v ∈ sample.values, sintHolds cfgS1.wIn v = true) ∧ 11 ≤ cfgS1.n ∧
    Config.legal { cfgS1 with n := 10, bankInit := [] } = true ∧ Bank.wf 10 [] = true ∧ 10 < 11 := by decide

theorem witness_BeatLevelGuardRefinesAtomicOperations :
    (GuardState.boot bankS1).Inv ∧ (guardBeat (.grantReq 0 2) (GuardState.boot bankS1)).Inv ∧
    (guardBeat (.grantLoc 0 [1#16]) (GuardState.boot bankS1)).Inv ∧
    (guardBeat (.grantLocRead 0 2) (GuardState.boot bankS1)).Inv := by
  refine ⟨?_, ?_, ?_, ?_⟩ <;> constructor <;> decide

theorem witness_StepRunsTheDecodedInstruction :
    (ready bytesV1 []).cfg.legal = true ∧ (ready bytesV1 []).phase = .exec ∧ (ready bytesV1 []).inputs = [] ∧
    decodeReq8 (rxBytes (ready bytesV1 [])) = .ok (.rhr 1#8 0#16 11#16 0x0D04#16) ∧
    (ready bytesV1 [.internal]).phase = .exec ∧ (ready bytesV1 [.internal]).inputs = .internal :: [] ∧
    decodeReq8 (rxBytes (ready bytesV1 [.internal])) = .ok (.rhr 1#8 0#16 11#16 0x0D04#16) ∧
    (accum [] [.loc (readRequest 0#16 1#16)]).inputs = .loc (readRequest 0#16 1#16) :: [] ∧
    decodePort (readRequest 0#16 1#16) = .ok (.bankRead 0#16 1#16) ∧
    Instr.wellFormed cfgS1 (.bankRead 0#16 1#16) = true := by decide

theorem witness_ExecIsDecodeProcessEncode :
    (ready bytesV1 []).cfg.legal = true ∧ (ready bytesV1 []).phase = .exec ∧ (ready bytesV1 []).inputs = [] ∧
    (ready bytesV1 [.internal, .rxTimeout]).inputs = .internal :: [.rxTimeout] := by decide

theorem witness_RxByteAccumulates :
    (accum (bytesV1.take 7) [.rxByte 0x0D#8]).cfg.legal = true ∧
    (accum (bytesV1.take 7) [.rxByte 0x0D#8]).inputs = .rxByte 0x0D#8 :: [] ∧
    (accum (bytesV1.take 7) [.rxByte 0x0D#8]).phase = .accum ∧ (accum (bytesV1.take 7) []).rxCnt < 8 ∧
    Memory.wf 8 (accum (bytesV1.take 7) [.rxByte 0x0D#8]).rxBuf = true ∧
    (halted [.rxByte 0x0D#8]).inputs = .rxByte 0x0D#8 :: [] ∧ (halted [.rxByte 0x0D#8]).phase ≠ .accum := by
  decide

theorem witness_RxTimeoutDiscardsAPartialFrame :
    (accum (bytesV1.take 1) [.rxTimeout]).cfg.legal = true ∧
    (accum (bytesV1.take 1) [.rxTimeout]).inputs = .rxTimeout :: [] ∧
    (accum (bytesV1.take 1) []).phase = .accum ∧ 0 < (accum (bytesV1.take 1) [.rxTimeout]).rxCnt ∧
    ¬ ((accum [] [.rxTimeout]).phase = .accum ∧ 0 < (accum [] [.rxTimeout]).rxCnt) ∧
    ¬ ((ready bytesV1 [.rxTimeout]).phase = .accum ∧ 0 < (ready bytesV1 [.rxTimeout]).rxCnt) := by decide

theorem witness_TxByteSendsInOrder :
    (sending 4 [.txReady]).cfg.legal = true ∧ (sending 4 [.txReady]).inputs = .txReady :: [] ∧
    (sending 4 [.txReady]).phase = .respond ∧ (sending 4 [.txReady]).txIdx < (sending 4 [.txReady]).txLen ∧
    (sending 4 [.txReady]).txLen ≤ (sending 4 [.txReady]).cfg.txMax ∧
    (accum [] [.txReady]).inputs = .txReady :: [] ∧ (accum [] [.txReady]).phase ≠ .respond := by decide

theorem witness_XportErrAbandonsAndCounts :
    (accum [] [.xportErr]).cfg.legal = true ∧ (accum [] [.xportErr]).inputs = .xportErr :: [] ∧
    (accum [] [.xportErr]).phase = .accum ∧ (sending 3 [.xportErr]).phase = .respond ∧
    (sending 3 [.xportErr]).inputs = .xportErr :: [] ∧
    (broken [.xportErr]).inputs = .xportErr :: [] ∧
    (broken [.xportErr]).phase ≠ .accum ∧ (broken [.xportErr]).phase ≠ .respond := by decide

theorem witness_ShutdownStopsAtTheSuspensionPoint :
    (accum [] [.shutdown]).cfg.legal = true ∧ (accum [] [.shutdown]).inputs = .shutdown :: [] ∧
    (accum [] [.shutdown]).phase = .accum ∧ (accum [] [.shutdown]).rxCnt = 0 ∧
    (accum (bytesV1.take 1) [.shutdown]).phase = .accum ∧ 0 < (accum (bytesV1.take 1) [.shutdown]).rxCnt ∧
    (sending 3 [.shutdown]).phase ≠ .accum := by decide

theorem witness_ResetClearsEverything :
    (broken [.reset]).cfg.legal = true ∧ (broken [.reset]).inputs = .reset :: [] := by decide

/-- One instance per arm of the statement, with both ways Exec can end, and one of its last arm. -/
theorem witness_PhaseTransitionTable :
    ((accum (bytesV1.take 7) [.rxByte 0x0D#8]).Inv ∧ Runs (accum (bytesV1.take 7) [.rxByte 0x0D#8])) ∧
    ((ready bytesV1 [.internal]).Inv ∧ Runs (ready bytesV1 [.internal])) ∧
    ((sending 4 [.txReady]).Inv ∧ Runs (sending 4 [.txReady])) ∧
    ((accum [] [.xportErr]).Inv ∧ Runs (accum [] [.xportErr])) ∧
    ((sending 3 [.xportErr]).Inv ∧ Runs (sending 3 [.xportErr])) ∧
    ((accum [] [.shutdown]).Inv ∧ Runs (accum [] [.shutdown])) ∧
    ((accum (bytesV1.take 3) [.rxTimeout]).Inv ∧ Runs (accum (bytesV1.take 3) [.rxTimeout])) ∧
    ((ready bytesV5 [.internal]).Inv ∧ Runs (ready bytesV5 [.internal])) ∧
    ((ready bytesV1 [.shutdown]).Inv ∧ Runs (ready bytesV1 [.shutdown])) ∧
    ((sending 3 [.shutdown]).Inv ∧ Runs (sending 3 [.shutdown])) ∧
    ((broken [.reset]).Inv ∧ Runs (broken [.reset])) ∧
    ((halted [.rxByte 1#8]).Inv ∧ Runs (halted [.rxByte 1#8])) :=
  ⟨⟨inv_accum7 _, runs_of (by decide +kernel)⟩, ⟨inv_ready _, runs_of (by decide +kernel)⟩,
   ⟨inv_sending4 _, runs_of (by decide +kernel)⟩, ⟨inv_accum _, runs_of (by decide +kernel)⟩,
   ⟨inv_sending _, runs_of (by decide +kernel)⟩, ⟨inv_accum _, runs_of (by decide +kernel)⟩,
   ⟨inv_accum3 _, runs_of (by decide +kernel)⟩, ⟨inv_readyV5 _, runs_of (by decide +kernel)⟩,
   ⟨inv_ready _, runs_of (by decide +kernel)⟩, ⟨inv_sending _, runs_of (by decide +kernel)⟩,
   ⟨inv_broken _, runs_of (by decide +kernel)⟩, ⟨inv_halted _, runs_of (by decide +kernel)⟩⟩

theorem witness_ExecProducesOneOutcome :
    (ready bytesV1 []).cfg.legal = true ∧ (ready bytesV1 []).phase = .exec ∧
    (ready bytesV1 []).inputs.head?.getD .internal = .internal := by decide

theorem witness_NoPartialFrameSurvives :
    ((accum (bytesV1.take 3) [.rxTimeout]).Inv ∧ Runs (accum (bytesV1.take 3) [.rxTimeout])) ∧
    ((accum (bytesV1.take 3) [.xportErr]).Inv ∧ Runs (accum (bytesV1.take 3) [.xportErr])) ∧
    ((ready bytesV1 [.shutdown]).Inv ∧ Runs (ready bytesV1 [.shutdown])) ∧
    ((ready bytesV1 [.reset]).Inv ∧ Runs (ready bytesV1 [.reset])) :=
  ⟨⟨inv_accum3 _, runs_of (by decide +kernel)⟩, ⟨inv_accum3 _, runs_of (by decide +kernel)⟩,
   ⟨inv_ready _, runs_of (by decide +kernel)⟩, ⟨inv_ready _, runs_of (by decide +kernel)⟩⟩

theorem witness_StoppedAndFatalAreFinal :
    ((halted [.shutdown]).phase = .stopped ∧ (halted [.shutdown]).inputs.head? ≠ some .reset ∧
      Runs (halted [.shutdown])) ∧
    ((broken [.xportErr]).phase = .fatal ∧ (broken [.xportErr]).inputs.head? ≠ some .reset ∧
      Runs (broken [.xportErr])) :=
  ⟨⟨rfl, by decide, runs_of (by decide +kernel)⟩, ⟨rfl, by decide, runs_of (by decide +kernel)⟩⟩

theorem witness_ThreeFailuresInARowAreFatal :
    (accum [] [.xportErr, .xportErr, .xportErr]).cfg.legal = true ∧
    (accum [] [.xportErr, .xportErr, .xportErr]).phase = .accum ∧
    (accum [] [.xportErr, .xportErr, .xportErr]).xfail = 0 ∧
    (accum [] [.xportErr, .xportErr, .xportErr]).inputs = .xportErr :: .xportErr :: .xportErr :: [] := by decide

theorem witness_EighthByteAndTimeoutInEitherOrder :
    (accum (bytesV1.take 7) []).cfg.legal = true ∧ (accum (bytesV1.take 7) []).phase = .accum ∧
    (accum (bytesV1.take 7) []).rxCnt = 7 := by decide

theorem witness_IdleMachineStaysAsItIs :
    ((accum [] []).cfg.legal = true ∧ (accum [] []).inputs = [] ∧ (accum [] []).phase ≠ .exec) ∧
    ((broken []).Inv ∧ Quiescent (broken [])) := ⟨by decide, inv_broken [], .inr (.inr rfl)⟩

/-- Legal at both ends of the range of N. -/
theorem witness_ResetStateMeetsInvariants :
    Config.legal { cfgS1 with n := 1, bankInit := [] } = true ∧ Config.legal { cfgS1 with n := 127 } = true := by
  decide

theorem witness_EveryStepKeepsInvariants :
    (ready bytesV1 [.internal]).Inv ∧ Runs (ready bytesV1 [.internal]) :=
  ⟨inv_ready _, runs_of (by decide +kernel)⟩

/-- A write whose number of values is not `loc_len` is refused. -/
theorem witness_GoodStatesNeverStop :
    (accum [] [.loc { op := true, start := 0#16, len := 2#16, wdata := [1] }]).Inv ∧
    step (accum [] [.loc { op := true, start := 0#16, len := 2#16, wdata := [1] }]) = .refused .notPresentable :=
  ⟨inv_accum _, rfl⟩

theorem witness_ConfigurationIsStatic : ∃ t, runSteps 2 (ready bytesV1 [.internal, .reset]) = .next t := by
  obtain ⟨t, h, -⟩ := next_of_holds
    (show Holds (runSteps 2 (ready bytesV1 [.internal, .reset])) (fun _ => true) = true by decide +kernel)
  exact ⟨t, h⟩

theorem witness_OnlyLocalWritesAndResetChangeTheBank :
    (∀ e ∈ (ready bytesV1 [.internal, .txReady, .loc (readRequest 0#16 1#16)]).inputs, e.mayChangeBank = false) ∧
    ∃ t, runSteps 3 (ready bytesV1 [.internal, .txReady, .loc (readRequest 0#16 1#16)]) = .next t := by
  refine ⟨by decide, ?_⟩
  obtain ⟨t, h, -⟩ := next_of_holds
    (show Holds (runSteps 3 (ready bytesV1 [.internal, .txReady, .loc (readRequest 0#16 1#16)]))
      (fun _ => true) = true by decide +kernel)
  exact ⟨t, h⟩

theorem witness_StopRequestIsKeptUntilReset :
    (halted [.xportErr]).stopReq = true ∧ (halted [.xportErr]).inputs.head? ≠ some .reset ∧
    Runs (halted [.xportErr]) := ⟨rfl, by decide, runs_of (by decide +kernel)⟩

theorem witness_StepEmitsAtMostOneThing : Runs (sending 4 [.txReady]) ∧ Runs (ready bytesV1 []) ∧
    Runs (accum [] [.loc (readRequest 0#16 1#16)]) :=
  ⟨runs_of (by decide +kernel), runs_of (by decide +kernel), runs_of (by decide +kernel)⟩

/-- Another content of the receive buffer beyond `rx_cnt`, and another recorded outcome. -/
theorem witness_UnreadStateNeverMatters :
    (accum [] [.rxByte 1#8]).Inv ∧
    ({ accum [] [.rxByte 1#8] with rxBuf := [(5, 9#8)], lastOutcome := .okResponse } : State).Inv ∧
    SameButUnread (accum [] [.rxByte 1#8])
      { accum [] [.rxByte 1#8] with rxBuf := [(5, 9#8)], lastOutcome := .okResponse } ∧
    Runs (accum [] [.rxByte 1#8]) := by
  refine ⟨inv_accum _, ?_, ?_, runs_of (by decide +kernel)⟩
  · constructor <;> decide +kernel
  · constructor <;> first | rfl | exact fun i h => absurd h (Nat.not_lt_zero i)

theorem witness_ResponseIsSentWholeAndInOrder :
    (sending 3 [.txReady, .txReady, .rxTimeout]).Inv ∧ (sending 3 [.txReady, .txReady, .rxTimeout]).phase = .respond ∧
    (sending 3 [.txReady, .txReady, .rxTimeout]).inputs =
      List.replicate ((sending 3 []).txLen - (sending 3 []).txIdx) .txReady ++ [.rxTimeout] :=
  ⟨inv_sending _, rfl, rfl⟩

/-- The inputs of V13's first row: `RHR 1, 0, 1`, time for Exec, and a transport ready seven times. -/
def inputsEndToEnd : List Event :=
  (rhrForm 1#8 0#16 1#16).map .rxByte ++ .internal :: (List.replicate 7 .txReady ++ [])

theorem witness_RequestIsAnsweredEndToEnd :
    (accum [] inputsEndToEnd).Inv ∧ (accum [] inputsEndToEnd).phase = .accum ∧ (accum [] inputsEndToEnd).rxCnt = 0 ∧
    (1#16 : Word) ≠ 0#16 ∧ (0#16 : Word).toNat + (1#16 : Word).toNat ≤ (accum [] inputsEndToEnd).cfg.n ∧
    (accum [] inputsEndToEnd).inputs =
      (rhrForm (accum [] inputsEndToEnd).cfg.unitId 0#16 1#16).map .rxByte ++ .internal ::
        (List.replicate (5 + 2 * (1#16 : Word).toNat) .txReady ++ []) :=
  ⟨inv_accum _, rfl, rfl, by decide, by decide, rfl⟩

/-- A clock in RESPOND that offers a byte and takes one, and a clock in ACCUM that offers one. -/
theorem witness_BytesMoveOnlyOnAHandshake :
    (rxReady (sending 4 []) = false ∧
      InputCycle.Admits ⟨false, some 1#8, false, true, true, false, none⟩ (sending 4 []) [.txReady, .xportErr] ∧
      ∃ t, runSteps 2 (sending 4 [.txReady, .xportErr]) = .next t) ∧
    (txValid (accum [] []) = false ∧
      InputCycle.Admits ⟨false, some 1#8, true, false, true, false, none⟩ (accum [] []) [.rxByte 1#8, .rxTimeout] ∧
      ∃ t, runSteps 2 (accum [] [.rxByte 1#8, .rxTimeout]) = .next t) := by
  refine ⟨⟨by decide, .inl (.swap _ _ _), ?_⟩, ⟨by decide, .inl (.refl _), ?_⟩⟩
  · obtain ⟨t, h, -⟩ := next_of_holds
      (show Holds (runSteps 2 (sending 4 [.txReady, .xportErr])) (fun _ => true) = true by decide +kernel)
    exact ⟨t, h⟩
  · obtain ⟨t, h, -⟩ := next_of_holds
      (show Holds (runSteps 2 (accum [] [.rxByte 1#8, .rxTimeout])) (fun _ => true) = true by decide +kernel)
    exact ⟨t, h⟩

theorem witness_LastByteAndTransportErrorInEitherOrder :
    (sending 4 []).cfg.legal = true ∧ (sending 4 []).phase = .respond ∧
    (sending 4 []).txIdx + 1 = (sending 4 []).txLen ∧ (sending 4 []).txLen ≤ (sending 4 []).cfg.txMax ∧
    (sending 4 []).stopReq = false := by decide

theorem witness_ResetWinsItsClock :
    (InputCycle.mk true (some 1#8) true true true true none).rst = true ∧ (broken []).cfg.legal = true := by decide

end Sys2Proof.Tests
end

