-- ==== Sys2Proof/Proofs/RequestOperands.lean ====
section
/-! SUPPORT. DECODE of a request with its own trailer: the operands as numbers (R84). -/

namespace Sys2Proof.Machine

/-- A big-endian pair as a number: the first byte counts 256s (R12, R54). -/
theorem toNat_u16be (h l : Byte) : (u16be h l).toNat = h.toNat * 256 + l.toNat := by
  rw [u16be, BitVec.toNat_append, ← Nat.shiftLeft_add_eq_or_of_lt l.isLt, Nat.shiftLeft_eq]

/-- DECODE of six bytes and their trailer answers the four fields: the trailer it reads back is the CRC. -/
theorem decodeFrame_withTrailer_six (b0 b1 b2 b3 b4 b5 : Byte) :
    decodeFrame (withTrailer [b0, b1, b2, b3, b4, b5]) =
      .ok { unitId := b0, functionCode := b1, startAddress := u16be b2 b3, registerCount := u16be b4 b5 } := by
  have hv := (verify_iff [b0, b1, b2, b3, b4, b5] _).mpr rfl
  simp only [withTrailer, le2, List.cons_append, List.nil_append, decodeFrame_eight, u16le_lo_hi, hv, if_true]

/-- Settles O53: a request with its own trailer decodes, and each operand is its byte pair read as a number. -/
theorem requestOperandsAreUnsignedAndBigEndian : Obligations.RequestOperandsAreUnsignedAndBigEndian := by
  intro b0 b1 b2 b3 b4 b5
  exact ⟨_, decodeFrame_withTrailer_six b0 b1 b2 b3 b4 b5, rfl, rfl, toNat_u16be b2 b3, toNat_u16be b4 b5⟩

end Sys2Proof.Machine
end

/-! SUPPORT. The exception answers of an admitted request (R152, R153): what RHR out of range and ILLFN load for
transmission, and how the loaded frame is read back. -/

namespace Sys2Proof.Machine

/-- A request with a valid trailer and this slave's unit id goes on to its own work, the receive buffer
emptied (R261, R223). -/
theorem admitRequest_of_admitted {u f : Byte} {a n c : Word} {s : State}
    (hv : verify (requestBody u f a n) c = true) (hu : u = s.cfg.unitId) (k : State → Result) :
    admitRequest u f a n c k s = k (clearRx s) := by
  rw [admitRequest, if_pos hv, if_pos hu]

/-- The frame to be sent is the frame just loaded: the transmit buffer reads back what was stored (R223). -/
theorem txFrame_report_loadTx {m : Nat} {s : State} (hwf : Memory.wf m s.txBuf = true)
    (o : OutcomeCode) (F : List Byte) : txFrame (report o (loadTx F s)) = F :=
  cellsReadBurst_writeBurst hwf 0 F

/-- An exception for a code that has bit 7 set already carries that code as it is (R171). -/
theorem encodeException_or_0x80 (u f e : Byte) :
    encodeException u (f ||| 0x80#8) e = withTrailer [u, f ||| 0x80#8, e] := by
  rw [encodeException, exceptionBody, or_0x80_idem]

/-- An admitted RHR out of range loads exception 0x02, whichever of the two causes it has (R153). -/
theorem exec_rhr_outOfRange {s : State} {u : Byte} {a n c : Word}
    (hv : verify (requestBody u 0x03#8 a n) c = true) (hu : u = s.cfg.unitId)
    (hr : n = 0#16 ∨ s.cfg.n < a.toNat + n.toNat) :
    exec (.rhr u a n c) s = .next (report .excIllegalDataAddress
      (loadTx (withTrailer [u, 0x83#8, 0x02#8]) (clearRx s))) := by
  have hadmit : exec (.rhr u a n c) s = serveRhr u a n (clearRx s) := admitRequest_of_admitted hv hu _
  rw [hadmit]
  rcases serveRhr_cases u a n (clearRx s) with ⟨-, hexc⟩ | ⟨hn, hin, -⟩
  · exact hexc
  · rw [clearRx_cfg] at hin
    exact absurd hr (not_or.mpr ⟨hn, Nat.not_lt.mpr hin⟩)

/-- An admitted ILLFN loads exception 0x01 for its code; neither bank nor operands occur in the answer (R152). -/
theorem exec_illfn_admitted {s : State} {u f : Byte} {a n c : Word}
    (hv : verify (requestBody u f a n) c = true) (hu : u = s.cfg.unitId) :
    exec (.illfn u f a n c) s = .next (report .excIllegalFunction
      (loadTx (withTrailer [u, f ||| 0x80#8, 0x01#8]) (clearRx s))) := by
  have hadmit : exec (.illfn u f a n c) s = raiseException u f .illegalFunction (clearRx s) :=
    admitRequest_of_admitted hv hu _
  rw [hadmit, raiseException_next, ModbusException.wire, encodeException_or_0x80, ModbusException.outcome]

/-- Settles O11: the next state is the one that loads the exception frame, and each field is read off it. -/
theorem rhrOutOfRangeAnswersIllegalDataAddress : Obligations.RhrOutOfRangeAnswersIllegalDataAddress := by
  intro s u a n c hwf hv hu hr
  have hframe := txFrame_report_loadTx (s := clearRx s) hwf .excIllegalDataAddress
    (withTrailer [u, 0x83#8, 0x02#8])
  exact ⟨_, exec_rhr_outOfRange hv hu hr, hframe, rfl, rfl, rfl, rfl, rfl, rfl⟩

/-- Settles O12: the fields are read off the state that loads the exception frame; with another bank the
same frame is loaded and that bank is carried along. -/
theorem illfnAnswersIllegalFunction : Obligations.IllfnAnswersIllegalFunction := by
  intro s u f a n c hwf hv hu _
  have hframe := txFrame_report_loadTx (s := clearRx s) hwf .excIllegalFunction
    (withTrailer [u, f ||| 0x80#8, 0x01#8])
  refine ⟨_, exec_illfn_admitted hv hu, hframe, rfl, rfl, rfl, rfl, rfl, rfl, ?_⟩
  intro x
  exact exec_illfn_admitted (s := { s with bank := x }) hv hu

end Sys2Proof.Machine

/-! SUPPORT. The guarded bank operations on the local port: which of its two answers BANK_READ (R191, R209) and
BANK_WRITE (R194) give, the burst as a list of registers, and the clipped value as a number. -/

namespace Sys2Proof.Machine

/-- BANK_READ of no register fails, wherever it starts. -/
theorem bankRead_count_zero (n : Nat) (x : Bank) (start : Word) :
    bankRead n x start 0#16 = .error .outOfRange :=
  if_pos (.inl rfl)

/-- BANK_READ past the end of the bank fails; the sum does not wrap (R210). -/
theorem bankRead_beyond {n : Nat} {start count : Word} (x : Bank) (h : n < start.toNat + count.toNat) :
    bankRead n x start count = .error .outOfRange :=
  if_pos (.inr h)

theorem bankRead_inRange {n : Nat} {start count : Word} (x : Bank) (hc : count ≠ 0#16)
    (h : start.toNat + count.toNat ≤ n) :
    bankRead n x start count = .ok (memRead x start.toNat count.toNat) :=
  if_neg (not_or.mpr ⟨hc, Nat.not_lt.mpr h⟩)

theorem bankWrite_beyond {n : Nat} {start : Word} {vs : List Int} (x : Bank)
    (h : n < start.toNat + vs.length) : bankWrite n x start vs = .error .outOfRange :=
  if_pos h

theorem bankWrite_inRange {n : Nat} {start : Word} {vs : List Int} (x : Bank)
    (h : start.toNat + vs.length ≤ n) :
    bankWrite n x start vs = .ok (memWrite x start.toNat (vs.map clip16)) :=
  if_neg (Nat.not_lt.mpr h)

/-- On the local port a read that succeeds presents its values (R94, R227). -/
theorem exec_bankRead_ok {s : State} {start count : Word} {vs : List Word}
    (h : bankRead s.cfg.n s.bank start count = .ok vs) :
    exec (.bankRead start count) s = .next (emit (.loc true vs) s) := by
  rw [exec, execBankRead, h]

/-- On the local port a read that fails presents no data (R94; log entry 21). -/
theorem exec_bankRead_error {s : State} {start count : Word}
    (h : bankRead s.cfg.n s.bank start count = .error .outOfRange) :
    exec (.bankRead start count) s = .next (emit (.loc false []) s) := by
  rw [exec, execBankRead, h]

/-- On the local port a write that succeeds replaces the bank and nothing else. -/
theorem exec_bankWrite_ok {s : State} {start : Word} {vs : List Int} {x : Bank}
    (h : bankWrite s.cfg.n s.bank start vs = .ok x) :
    exec (.bankWrite start vs) s = .next (emit (.loc true []) { s with bank := x }) := by
  rw [exec, execBankWrite, h]

/-- On the local port a write that fails changes nothing (R195). -/
theorem exec_bankWrite_error {s : State} {start : Word} {vs : List Int}
    (h : bankWrite s.cfg.n s.bank start vs = .error .outOfRange) :
    exec (.bankWrite start vs) s = .next (emit (.loc false []) s) := by
  rw [exec, execBankWrite, h]

/-- A burst read is the list of the registers it covers, in ascending order. -/
theorem memRead_eq_map_range (x : Bank) (a n : Nat) :
    memRead x a n = (List.range n).map (fun k => cellsRead x (a + k)) := by
  apply List.ext_getElem (by simp)
  intro k hk _
  rw [memRead_length] at hk
  have hunit : (memRead x a n).getD k 0#16 = cellsRead x (a + k) := cellsReadBurst_getD x a n k hk 0#16
  rw [List.getD_eq_getElem _ _ (by simpa using hk)] at hunit
  simpa using hunit

/-- A clipped value as a number: the value itself, held between 0 and 65535 (R196). -/
theorem toNat_clip16 (v : Int) : ((clip16 v).toNat : Int) = max 0 (min v 65535) := by
  unfold clip16
  split_ifs with hneg hbig
  · rw [show (0#16).toNat = 0 from rfl]; omega
  · rw [show (65535#16).toNat = 65535 from rfl]; omega
  · rw [BitVec.toNat_ofNat, Nat.mod_eq_of_lt (by omega)]; omega

/-- Settles O21: the two clauses are the two answers of BANK_READ, and the burst is its list of registers. -/
theorem bankReadReturnsTheBurst : Obligations.BankReadReturnsTheBurst := by
  intro s start count
  constructor
  · rintro (rfl | hbeyond)
    · exact exec_bankRead_error (bankRead_count_zero _ _ _)
    · exact exec_bankRead_error (bankRead_beyond _ hbeyond)
  · intro hcount hin
    rw [← memRead_eq_map_range]
    exact exec_bankRead_ok (bankRead_inRange _ hcount hin)

/-- Settles O23: in range the new bank is the burst write of the clipped values, read back by the laws of
burst writes inside and outside it. -/
theorem bankWriteStoresClippedValues : Obligations.BankWriteStoresClippedValues := by
  intro s start values hwf
  constructor
  · intro hbeyond
    exact exec_bankWrite_error (bankWrite_beyond _ hbeyond)
  · intro hin
    have hok := bankWrite_inRange s.bank hin
    refine ⟨memWrite s.bank start.toNat (values.map clip16), exec_bankWrite_ok hok, bankWrite_wf hwf hok,
      ?_, ?_⟩
    · intro k hk
      have hread : cellsRead (memWrite s.bank start.toNat (values.map clip16)) (start.toNat + k) =
          (values.map clip16).getD k (clip16 0) := cellsRead_writeBurst_inside hwf (by simpa using hk) _
      rw [hread, List.getD_map, toNat_clip16]
    · intro i hi
      exact cellsRead_writeBurst_outside s.bank (by simpa using hi)

/-- Settles O22: two rows lie in range; of the other nine, two have count 0 and seven reach past register
`N - 1`. -/
theorem bankReadBoundaryTable : Obligations.BankReadBoundaryTable := by
  intro N x hpos hmax
  have hstart : (BitVec.ofNat 16 (N - 1)).toNat = N - 1 := Nat.mod_eq_of_lt (by omega)
  have hN : (BitVec.ofNat 16 N).toNat = N := Nat.mod_eq_of_lt (by omega)
  have hnext : (BitVec.ofNat 16 (N + 1)).toNat = N + 1 := Nat.mod_eq_of_lt (by omega)
  have h0 : (0#16).toNat = 0 := rfl
  have h1 : (1#16).toNat = 1 := rfl
  have h2 : (2#16).toNat = 2 := rfl
  have htop : (65535#16).toNat = 65535 := rfl
  have hNne : BitVec.ofNat 16 N ≠ 0#16 := fun h => by rw [h, h0] at hN; omega
  have hwhole := bankRead_inRange (n := N) (start := 0#16) x hNne (by omega)
  have hlast := bankRead_inRange (n := N) (start := BitVec.ofNat 16 (N - 1)) (count := 1#16) x
    (by decide) (by omega)
  rw [hN] at hwhole
  rw [hstart] at hlast
  exact ⟨hwhole, hlast, bankRead_beyond x (by omega), bankRead_beyond x (by omega),
    bankRead_beyond x (by omega), bankRead_count_zero N x _, bankRead_count_zero N x _,
    bankRead_beyond x (by omega), bankRead_beyond x (by omega), bankRead_beyond x (by omega),
    bankRead_beyond x (by omega)⟩

end Sys2Proof.Machine

/-! SUPPORT. The local port as a step (R227): which instruction a request presents, and that a step with such a
request at hand is exactly that instruction. -/

namespace Sys2Proof.Machine

/-- The local port presents BANK_READ or BANK_WRITE and no other instruction (R94). -/
theorem decodePort_ok_cases {r : LocRequest} {i : Instr} (h : decodePort r = .ok i) :
    i = .bankRead r.start r.len ∨ i = .bankWrite r.start r.wdata := by
  unfold decodePort at h
  split_ifs at h with hwrite hlen
  · exact .inr (Except.ok.inj h).symm
  · exact .inl (Except.ok.inj h).symm

/-- A request the ports can present is run by the meaning of its instruction, in every phase. -/
theorem localPort_presentable {r : LocRequest} {i : Instr} {s : State} (hd : decodePort r = .ok i)
    (hw : i.wellFormed s.cfg = true) : localPort r s = exec i s := by
  simp only [localPort, hd, hw, if_true]

/-- A step with a presentable local-port request at hand is its instruction, only the event removed. -/
theorem step_loc {s : State} {r : LocRequest} {i : Instr} {es : List Event} (hl : s.cfg.legal = true)
    (hi : s.inputs = .loc r :: es) (hd : decodePort r = .ok i) (hw : i.wellFormed s.cfg = true) :
    step s = exec i { s with inputs := es } :=
  (step_event hl hi).trans (localPort_presentable hd hw)

/-- Settles O24: a presentable request is a read or a write, each with its two answers. Each answer depends on
the configuration and the bank alone, so it is given in every state that shares these. -/
theorem localPortTouchesOnlyTheBank : Obligations.LocalPortTouchesOnlyTheBank := by
  intro s r i es hl hi hd hw
  -- In every such state the step is `exec`, so each case needs only what `exec` answers there.
  have hstep : ∀ s' : State, s'.cfg = s.cfg → s'.inputs = s.inputs →
      step s' = exec i { s' with inputs := es } := fun s' hcfg hinputs =>
    step_loc (hcfg ▸ hl) (hinputs.trans hi) hd (hcfg ▸ hw)
  rcases decodePort_ok_cases hd with rfl | rfl
  · rcases bankRead_cases s.cfg.n s.bank r.start r.len with ⟨hfail, -⟩ | ⟨hok, -⟩
    · refine ⟨s.bank, false, [], ⟨rfl, .inr ⟨hfail, rfl, rfl⟩⟩, fun s' hcfg hbank hinputs => ?_⟩
      rw [hstep s' hcfg hinputs, ← hbank]
      exact exec_bankRead_error (by rwa [hcfg, hbank])
    · refine ⟨s.bank, true, _, ⟨rfl, .inl ⟨hok, rfl⟩⟩, fun s' hcfg hbank hinputs => ?_⟩
      rw [hstep s' hcfg hinputs, ← hbank]
      exact exec_bankRead_ok (by rwa [hcfg, hbank])
  · rcases bankWrite_cases s.cfg.n s.bank r.start r.wdata with ⟨hfail, -⟩ | ⟨hok, -⟩
    · refine ⟨s.bank, false, [], .inr ⟨hfail, rfl, rfl, rfl⟩, fun s' hcfg hbank hinputs => ?_⟩
      rw [hstep s' hcfg hinputs, ← hbank]
      exact exec_bankWrite_error (by rwa [hcfg, hbank])
    · refine ⟨_, true, [], .inl ⟨hok, rfl, rfl⟩, fun s' hcfg hbank hinputs => ?_⟩
      rw [hstep s' hcfg hinputs]
      exact exec_bankWrite_ok (by rwa [hcfg, hbank])

end Sys2Proof.Machine

/-! SUPPORT. The sequencer's steps case by case (R221 to R228): what each event does in the phase in which its step
is enabled, and that it does nothing elsewhere; and a step as the effect of the event at hand. -/

namespace Sys2Proof.Machine

/-- The event a step takes: the next input, or, when none is left, time for the internal step (R236). -/
def nextEvent (s : State) : Event := s.inputs.head?.getD .internal

/-- The state with the event at hand consumed. -/
def consume (s : State) : State := { s with inputs := s.inputs.tail }

@[simp] theorem consume_cfg (s : State) : (consume s).cfg = s.cfg := rfl
@[simp] theorem consume_bank (s : State) : (consume s).bank = s.bank := rfl
@[simp] theorem consume_phase (s : State) : (consume s).phase = s.phase := rfl
@[simp] theorem consume_rxBuf (s : State) : (consume s).rxBuf = s.rxBuf := rfl
@[simp] theorem consume_rxCnt (s : State) : (consume s).rxCnt = s.rxCnt := rfl
@[simp] theorem consume_txBuf (s : State) : (consume s).txBuf = s.txBuf := rfl
@[simp] theorem consume_txLen (s : State) : (consume s).txLen = s.txLen := rfl
@[simp] theorem consume_txIdx (s : State) : (consume s).txIdx = s.txIdx := rfl
@[simp] theorem consume_xfail (s : State) : (consume s).xfail = s.xfail := rfl
@[simp] theorem consume_stopReq (s : State) : (consume s).stopReq = s.stopReq := rfl
@[simp] theorem consume_lastOutcome (s : State) : (consume s).lastOutcome = s.lastOutcome := rfl
@[simp] theorem consume_inputs (s : State) : (consume s).inputs = s.inputs.tail := rfl
@[simp] theorem consume_outputs (s : State) : (consume s).outputs = s.outputs := rfl
@[simp] theorem idlePhase_consume (s : State) : idlePhase (consume s) = idlePhase s := rfl

/-- The event at hand, when the inputs name it. -/
theorem nextEvent_cons {s : State} {e : Event} {es : List Event} (h : s.inputs = e :: es) :
    nextEvent s = e := by
  rw [nextEvent, h]; rfl

/-- A step in a legal configuration is the effect of the event at hand, that event consumed (R220). -/
theorem step_eq_runEvent {s : State} (hl : s.cfg.legal = true) :
    step s = runEvent (nextEvent s) (consume s) := by
  cases hi : s.inputs with
  | nil =>
    have hsame : consume s = s := by rw [consume, hi, List.tail_nil, ← hi]
    rw [step_internal hl hi, nextEvent, hi, hsame]; rfl
  | cons e es => rw [step_event hl hi, nextEvent_cons hi, consume, hi, List.tail_cons]

/-- A step that answers a next state is in a legal configuration and is the effect of the event at hand. -/
theorem runEvent_of_step {s t : State} (h : step s = .next t) :
    s.cfg.legal = true ∧ runEvent (nextEvent s) (consume s) = .next t := by
  have hl := (step_next_cases h).1
  exact ⟨hl, step_eq_runEvent hl ▸ h⟩

/-! ### RxByte and RxTimeout -/

/-- In ACCUM a byte is stored at `rx_cnt`, and the eighth leads to EXEC (R221). -/
theorem rxByte_accum {s : State} (b : Byte) (hp : s.phase = .accum) (hc : s.rxCnt < 8) :
    rxByte b s = { s with rxBuf := cellsWrite s.rxBuf s.rxCnt b, rxCnt := s.rxCnt + 1, xfail := 0,
                          phase := if s.rxCnt + 1 = 8 then .exec else .accum } :=
  if_pos ⟨hp, hc⟩

/-- Outside ACCUM no byte is accepted. -/
theorem rxByte_of_ne_accum {s : State} (b : Byte) (hp : s.phase ≠ .accum) : rxByte b s = s :=
  if_neg fun h => hp h.1

/-- A partial frame is discarded and reported at a timeout (R222). -/
theorem rxTimeout_partial {s : State} (hp : s.phase = .accum) (hc : 0 < s.rxCnt) :
    rxTimeout s = report .dropFrameTooShort (clearRx s) :=
  if_pos ⟨hp, hc⟩

/-- Without a partial frame a timeout has no effect. -/
theorem rxTimeout_of_not {s : State} (h : ¬ (s.phase = .accum ∧ 0 < s.rxCnt)) : rxTimeout s = s :=
  if_neg h

/-! ### TxByte -/

/-- A byte that is not the frame's last goes out and `tx_idx` advances (R224). -/
theorem txByte_middle {s : State} (hp : s.phase = .respond) (hi : s.txIdx < s.cfg.txMax)
    (hlast : s.txIdx + 1 ≠ s.txLen) :
    txByte s = .next { transportOk (emit (.tx (txData s) false) s) with txIdx := s.txIdx + 1 } := by
  rw [txByte, if_pos hp, if_pos hi, if_neg hlast, decide_eq_false hlast, txData]

/-- The frame's last byte goes out and the frame is finished (R224). -/
theorem txByte_last {s : State} (hp : s.phase = .respond) (hi : s.txIdx < s.cfg.txMax)
    (hlast : s.txIdx + 1 = s.txLen) :
    txByte s = .next (toIdle (clearTx (transportOk (emit (.tx (txData s) true) s)))) := by
  rw [txByte, if_pos hp, if_pos hi, if_pos hlast, decide_eq_true hlast, txData]

/-- Outside RESPOND the transport's readiness finds nothing to send (log entry 2). -/
theorem txByte_of_ne_respond {s : State} (hp : s.phase ≠ .respond) : txByte s = .next s :=
  if_neg hp

/-- In RESPOND a byte that the buffer does not have stops the machine by name (log entry 12). -/
theorem txByte_beyond {s : State} (hp : s.phase = .respond) (hi : ¬ s.txIdx < s.cfg.txMax) :
    txByte s = .fault (.noSuchTxByte s.txIdx) := by
  rw [txByte, if_pos hp, if_neg hi]

/-! ### XportErr and Shutdown -/

/-- In ACCUM a transport error abandons the partial frame (R225). -/
theorem xportErr_accum {s : State} (hp : s.phase = .accum) : xportErr s = transportFailed (clearRx s) := by
  rw [xportErr, hp]

/-- In RESPOND a transport error abandons the response (R225). -/
theorem xportErr_respond {s : State} (hp : s.phase = .respond) :
    xportErr s = transportFailed (toIdle (clearTx s)) := by
  rw [xportErr, hp]

/-- In EXEC, STOPPED and FATAL a transport error has no effect (R225). -/
theorem xportErr_other {s : State} (ha : s.phase ≠ .accum) (hr : s.phase ≠ .respond) : xportErr s = s := by
  unfold xportErr
  split
  · exact absurd ‹_› ha
  · exact absurd ‹_› hr
  all_goals rfl

/-- In ACCUM with no byte received, a shutdown stops the request path (R226). -/
theorem shutdown_accum_empty {s : State} (hp : s.phase = .accum) (hc : s.rxCnt = 0) :
    shutdown s = { latchStop s with phase := .stopped } := by
  rw [shutdown, hp, hc]; rfl

/-- In ACCUM with a partial frame, a shutdown discards and reports it as well (R226). -/
theorem shutdown_accum_partial {s : State} (hp : s.phase = .accum) (hc : 0 < s.rxCnt) :
    shutdown s = report .dropFrameTooShort (clearRx { latchStop s with phase := .stopped }) := by
  rw [shutdown, hp]
  exact if_pos hc

/-- Outside ACCUM a shutdown is only latched (R226). -/
theorem shutdown_of_ne_accum {s : State} (hp : s.phase ≠ .accum) : shutdown s = latchStop s := by
  unfold shutdown
  split
  · exact absurd ‹_› hp
  all_goals rfl

/-- At the third failure in a row the phase is FATAL: the count, saturating at 3, is 3 from 2 on (R28). -/
theorem saturated_iff (k : Nat) : min (k + 1) 3 = 3 ↔ 2 ≤ k := by omega

end Sys2Proof.Machine

/-! SUPPORT. Everything an event can do, said once (R220): the effects of the eight kinds of events as one relation,
which every statement about all steps is proved over. -/

namespace Sys2Proof.Machine

/-- The events whose step is enabled in a state (R221 to R228); every other event passes without a step. -/
def Event.Enabled (s : State) : Event → Prop
  | .rxByte _ => s.phase = .accum ∧ s.rxCnt < 8
  | .rxTimeout => s.phase = .accum ∧ 0 < s.rxCnt
  | .internal => s.phase = .exec
  | .txReady => s.phase = .respond
  | .xportErr => s.phase = .accum ∨ s.phase = .respond
  | .shutdown => True
  | .loc _ => True
  | .reset => True

/-- `Effect s e t`: event `e`, consumed from the inputs of `s`, leads to `t`. -/
inductive Effect (s : State) : Event → State → Prop
  | rxByte (b : Byte) (hp : s.phase = .accum) (hc : s.rxCnt < 8) :
      Effect s (.rxByte b)
        { s with rxBuf := cellsWrite s.rxBuf s.rxCnt b, rxCnt := s.rxCnt + 1, xfail := 0,
                 phase := if s.rxCnt + 1 = 8 then .exec else .accum }
  | timeout (hp : s.phase = .accum) (hc : 0 < s.rxCnt) :
      Effect s .rxTimeout (report .dropFrameTooShort (clearRx s))
  | dropped (o : OutcomeCode) (hp : s.phase = .exec) (ho : o = .dropCrcMismatch ∨ o = .dropUnitIdMismatch) :
      Effect s .internal (drop o (clearRx s))
  | answered (P : List Byte) (o : OutcomeCode) (hp : s.phase = .exec) (hlen : 3 ≤ P.length)
      (hfit : P.length + 2 ≤ s.cfg.txMax)
      (ho : o = .okResponse ∨ o = .excIllegalFunction ∨ o = .excIllegalDataAddress) :
      Effect s .internal (report o (loadTx (withTrailer P) (clearRx s)))
  | txMiddle (hp : s.phase = .respond) (hi : s.txIdx < s.cfg.txMax) (hlast : s.txIdx + 1 ≠ s.txLen) :
      Effect s .txReady { transportOk (emit (.tx (txData s) false) s) with txIdx := s.txIdx + 1 }
  | txLast (hp : s.phase = .respond) (hi : s.txIdx < s.cfg.txMax) (hlast : s.txIdx + 1 = s.txLen) :
      Effect s .txReady (toIdle (clearTx (transportOk (emit (.tx (txData s) true) s))))
  | errAccum (hp : s.phase = .accum) : Effect s .xportErr (transportFailed (clearRx s))
  | errRespond (hp : s.phase = .respond) : Effect s .xportErr (transportFailed (toIdle (clearTx s)))
  | stopEmpty (hp : s.phase = .accum) (hc : s.rxCnt = 0) :
      Effect s .shutdown { latchStop s with phase := .stopped }
  | stopPartial (hp : s.phase = .accum) (hc : 0 < s.rxCnt) :
      Effect s .shutdown (report .dropFrameTooShort (clearRx { latchStop s with phase := .stopped }))
  | stopLatched (hp : s.phase ≠ .accum) : Effect s .shutdown (latchStop s)
  | locAnswered (r : LocRequest) (ok : Bool) (vs : List Word) : Effect s (.loc r) (emit (.loc ok vs) s)
  | locWritten (r : LocRequest) (x : Bank) (hop : r.op = true)
      (hw : bankWrite s.cfg.n s.bank r.start r.wdata = .ok x) :
      Effect s (.loc r) (emit (.loc true []) { s with bank := x })
  | reset : Effect s .reset (resetStep s)
  | passed (e : Event) (h : ¬ e.Enabled s) : Effect s e s

theorem effect_rxByte (b : Byte) (s : State) : Effect s (.rxByte b) (rxByte b s) := by
  by_cases h : s.phase = .accum ∧ s.rxCnt < 8
  · rw [rxByte_accum b h.1 h.2]; exact .rxByte b h.1 h.2
  · rw [show rxByte b s = s from if_neg h]; exact .passed _ h

theorem effect_rxTimeout (s : State) : Effect s .rxTimeout (rxTimeout s) := by
  by_cases h : s.phase = .accum ∧ 0 < s.rxCnt
  · rw [rxTimeout_partial h.1 h.2]; exact .timeout h.1 h.2
  · rw [rxTimeout_of_not h]; exact .passed _ h

theorem effect_internal {s t : State} (h : internal s = .next t) : Effect s .internal t := by
  by_cases hp : s.phase = .exec
  · rcases internal_cases hp with ⟨o, ho, hd⟩ | ⟨P, o, hlen, hfit, ho, ha⟩
    · cases hd.symm.trans h; exact .dropped o hp ho
    · cases ha.symm.trans h; exact .answered P o hp hlen hfit ho
  · cases (internal_idle hp).symm.trans h; exact .passed _ hp

theorem effect_txByte {s t : State} (h : txByte s = .next t) : Effect s .txReady t := by
  by_cases hp : s.phase = .respond
  · by_cases hi : s.txIdx < s.cfg.txMax
    · by_cases hlast : s.txIdx + 1 = s.txLen
      · cases (txByte_last hp hi hlast).symm.trans h; exact .txLast hp hi hlast
      · cases (txByte_middle hp hi hlast).symm.trans h; exact .txMiddle hp hi hlast
    · cases (txByte_beyond hp hi).symm.trans h
  · cases (txByte_of_ne_respond hp).symm.trans h; exact .passed _ hp

theorem effect_xportErr (s : State) : Effect s .xportErr (xportErr s) := by
  by_cases ha : s.phase = .accum
  · rw [xportErr_accum ha]; exact .errAccum ha
  · by_cases hr : s.phase = .respond
    · rw [xportErr_respond hr]; exact .errRespond hr
    · rw [xportErr_other ha hr]; exact .passed _ (not_or.mpr ⟨ha, hr⟩)

theorem effect_shutdown (s : State) : Effect s .shutdown (shutdown s) := by
  by_cases hp : s.phase = .accum
  · rcases Nat.eq_zero_or_pos s.rxCnt with hc | hc
    · rw [shutdown_accum_empty hp hc]; exact .stopEmpty hp hc
    · rw [shutdown_accum_partial hp hc]; exact .stopPartial hp hc
  · rw [shutdown_of_ne_accum hp]; exact .stopLatched hp

theorem effect_localPort {r : LocRequest} {s t : State} (h : localPort r s = .next t) :
    Effect s (.loc r) t := by
  rcases localPort_cases r s with hr | ⟨vs, -, hn⟩ | hn | ⟨x, hop, hw, hn⟩
  · cases hr.symm.trans h
  · cases hn.symm.trans h; exact .locAnswered r true vs
  · cases hn.symm.trans h; exact .locAnswered r false []
  · cases hn.symm.trans h; exact .locWritten r x hop hw

/-- What an event answers is one of its effects. -/
theorem effect_of_runEvent {e : Event} {s t : State} (h : runEvent e s = .next t) : Effect s e t := by
  cases e with
  | rxByte b => cases h; exact effect_rxByte b s
  | rxTimeout => cases h; exact effect_rxTimeout s
  | internal => exact effect_internal h
  | txReady => exact effect_txByte h
  | xportErr => cases h; exact effect_xportErr s
  | shutdown => cases h; exact effect_shutdown s
  | loc r => exact effect_localPort h
  | reset => cases h; exact .reset

/-- A step that answers a next state is an effect of the event at hand. -/
theorem effect_of_step {s t : State} (h : step s = .next t) : Effect (consume s) (nextEvent s) t :=
  effect_of_runEvent (runEvent_of_step h).2

end Sys2Proof.Machine

/-! SUPPORT. The invariants of R37: what they say of a phase, and that every effect of an event keeps them. -/

namespace Sys2Proof.Machine

/-- The invariants do not speak of the inputs to come. -/
theorem inv_withInputs {s : State} (h : s.Inv) (es : List Event) : State.Inv { s with inputs := es } :=
  { h with }

/-- The invariants do not speak of what has been emitted. -/
theorem inv_emit {s : State} (h : s.Inv) (o : Output) : (emit o s).Inv := { h with }

/-- The invariants do not speak of the outcome recorded. -/
theorem inv_report {s : State} (h : s.Inv) (o : OutcomeCode) : (report o s).Inv := { h with }

/-- Outside RESPOND no frame is waiting (R37 (c)). -/
theorem State.Inv.txLen_eq_zero {s : State} (h : s.Inv) (hp : s.phase ≠ .respond) : s.txLen = 0 :=
  Nat.eq_zero_of_not_pos fun hlen => hp (h.txWaiting.1 hlen)

/-- Waiting for bytes, fewer than eight have come (R37 (b)). -/
theorem State.Inv.rxCnt_lt {s : State} (h : s.Inv) (hp : s.phase ≠ .exec) : s.rxCnt < 8 :=
  Nat.lt_of_le_of_ne h.rxCntLe fun h8 => hp (h.rxFull.1 h8)

/-- Outside FATAL fewer than three failures are counted (R37 (f)). -/
theorem State.Inv.xfail_lt {s : State} (h : s.Inv) (hp : s.phase ≠ .fatal) : s.xfail < 3 :=
  Nat.lt_of_le_of_ne h.xfailLe fun h3 => hp (h.xfailFatal.1 h3)

/-- Sending, the byte at `tx_idx` exists (R37 (c)). -/
theorem State.Inv.txIdx_lt {s : State} (h : s.Inv) (hp : s.phase = .respond) : s.txIdx < s.cfg.txMax :=
  Nat.lt_of_lt_of_le (h.txLeft hp) h.txOrder.2

/-- `idle()` is neither EXEC, RESPOND nor FATAL. -/
theorem idlePhase_ne (s : State) :
    idlePhase s ≠ .exec ∧ idlePhase s ≠ .respond ∧ idlePhase s ≠ .fatal := by
  rcases idlePhase_cases s with ⟨-, h⟩ | ⟨-, h⟩ <;> rw [h] <;> decide

/-- A state with no byte received and no frame waiting, in a phase that waits for neither, meets the invariants
when its stores are canonical and its flags fit its phase. -/
theorem State.Inv.ofEmpty {t : State} (hl : t.cfg.legal = true) (hbank : Bank.wf t.cfg.n t.bank = true)
    (hrx : Memory.wf 8 t.rxBuf = true) (htx : Memory.wf t.cfg.txMax t.txBuf = true) (hcnt : t.rxCnt = 0)
    (hlen : t.txLen = 0) (hidx : t.txIdx = 0) (hexec : t.phase ≠ .exec) (hresp : t.phase ≠ .respond)
    (hle : t.xfail ≤ 3) (hfatal : t.xfail = 3 ↔ t.phase = .fatal) (hrun : t.phase = .accum → t.stopReq = false)
    (hstop : t.phase = .stopped → t.stopReq = true) : t.Inv where
  cfgLegal := hl
  bankWf := hbank
  rxWf := hrx
  txWf := htx
  rxCntLe := by omega
  rxFull := by simp [hcnt, hexec]
  txOrder := by omega
  txWaiting := by simp [hlen, hresp]
  txLeft := fun hp => absurd hp hresp
  rxEmpty := fun _ => hcnt
  txFrameLen := by omega
  txFrameValid := by omega
  xfailLe := hle
  xfailFatal := hfatal
  accumRuns := hrun
  stoppedAsked := hstop

/-- `idle()` is ACCUM only while no stop is requested, and STOPPED only when one is (R223). -/
theorem idlePhase_stopReq (s : State) :
    (idlePhase s = .accum → s.stopReq = false) ∧ (idlePhase s = .stopped → s.stopReq = true) := by
  rcases idlePhase_cases s with ⟨hs, h⟩ | ⟨hs, h⟩ <;> simp [hs]

/-- Where no frame is waiting, `tx_idx` is 0. -/
theorem State.Inv.txIdx_eq_zero {s : State} (h : s.Inv) (hp : s.phase ≠ .respond) : s.txIdx = 0 := by
  have hlen := h.txLen_eq_zero hp
  have hle := h.txOrder.1
  omega

/-- Where nothing is received, emptying the receive buffer changes nothing. -/
theorem clearRx_eq_self {s : State} (h : s.rxCnt = 0) : clearRx s = s := by rw [clearRx, ← h]

/-- Where no frame is waiting, clearing the transmit side changes nothing. -/
theorem clearTx_eq_self {s : State} (hlen : s.txLen = 0) (hidx : s.txIdx = 0) : clearTx s = s := by
  cases s; cases hlen; cases hidx; rfl

/-- A byte received in ACCUM. -/
theorem inv_rxByte {s : State} (h : s.Inv) (b : Byte) (hp : s.phase = .accum) (hc : s.rxCnt < 8) :
    State.Inv { s with rxBuf := cellsWrite s.rxBuf s.rxCnt b, rxCnt := s.rxCnt + 1, xfail := 0,
                       phase := if s.rxCnt + 1 = 8 then .exec else .accum } := by
  have hlen := h.txLen_eq_zero (by simp [hp])
  have hwf : Memory.wf 8 (cellsWrite s.rxBuf s.rxCnt b) = true := cellsWrite_wf h.rxWf hc b
  have hrun := h.accumRuns hp
  by_cases h8 : s.rxCnt + 1 = 8
  · simp only [if_pos h8]
    exact { h with rxWf := hwf, rxCntLe := hc, rxFull := by simp [h8], txWaiting := by simp [hlen],
                   txLeft := nofun, rxEmpty := by simp, xfailLe := by simp, xfailFatal := by simp,
                   accumRuns := nofun, stoppedAsked := nofun }
  · simp only [if_neg h8]
    exact { h with rxWf := hwf, rxCntLe := hc, rxFull := by simp [h8], txWaiting := by simp [hlen],
                   txLeft := nofun, rxEmpty := by simp, xfailLe := by simp, xfailFatal := by simp,
                   accumRuns := fun _ => hrun, stoppedAsked := nofun }

/-- Discarding a partial frame in ACCUM. -/
theorem inv_clearRx {s : State} (h : s.Inv) (hp : s.phase = .accum) : (clearRx s).Inv :=
  { h with rxCntLe := by simp, rxFull := by simp [hp], rxEmpty := fun _ => rfl }

/-- A successful transport operation clears the count of failures, which outside FATAL is below the threshold. -/
theorem inv_transportOk {s : State} (h : s.Inv) (hp : s.phase ≠ .fatal) : (transportOk s).Inv :=
  { h with xfailLe := by simp, xfailFatal := by simp [hp] }

/-- Going idle with both buffers emptied. -/
theorem inv_toIdle {s : State} (h : s.Inv) (hp : s.phase ≠ .fatal) : (toIdle (clearTx (clearRx s))).Inv := by
  obtain ⟨hexec, hresp, hfatal⟩ := idlePhase_ne s
  exact .ofEmpty h.cfgLegal h.bankWf h.rxWf h.txWf rfl rfl rfl hexec hresp h.xfailLe
    (iff_of_false (Nat.ne_of_lt (h.xfail_lt hp)) hfatal) (idlePhase_stopReq s).1 (idlePhase_stopReq s).2

/-- A request dropped in EXEC leaves nothing received and nothing waiting. -/
theorem inv_drop {s : State} (h : s.Inv) (hp : s.phase = .exec) (o : OutcomeCode) :
    (drop o (clearRx s)).Inv := by
  have hidle := inv_toIdle h (by simp [hp])
  rw [clearTx_eq_self (s := clearRx s) (h.txLen_eq_zero (by simp [hp])) (h.txIdx_eq_zero (by simp [hp]))] at hidle
  exact inv_report hidle o

/-- A response that is finished or abandoned in RESPOND. -/
theorem inv_endResponse {s : State} (h : s.Inv) (hp : s.phase = .respond) : (toIdle (clearTx s)).Inv := by
  have hidle := inv_toIdle h (by simp [hp])
  rwa [clearRx_eq_self (h.rxEmpty (.inl hp))] at hidle

/-- A frame with its own trailer, loaded into a canonical transmit buffer, verifies where it stands (R37 (e)). -/
theorem loaded_frame_valid {m : Nat} {x : Memory} (hwf : Memory.wf m x = true) (P : List Byte) :
    crc16 (cellsReadBurst (cellsWriteBurst x 0 (withTrailer P)) 0 ((withTrailer P).length - 2)) =
      u16le (cellsRead (cellsWriteBurst x 0 (withTrailer P)) ((withTrailer P).length - 2))
        (cellsRead (cellsWriteBurst x 0 (withTrailer P)) ((withTrailer P).length - 1)) := by
  have hread := cellsReadBurst_writeBurst hwf 0 (withTrailer P)
  have hlen : (withTrailer P).length = P.length + 2 := withTrailer_length P
  rw [hlen, cellsReadBurst_add] at hread
  obtain ⟨hbody, htrailer⟩ := List.append_inj hread (by simp)
  rw [hlen, Nat.add_sub_cancel, hbody, show P.length + 2 - 1 = P.length + 1 from rfl]
  simp only [cellsReadBurst, Nat.zero_add, le2, List.cons.injEq, and_true] at htrailer
  rw [htrailer.1, htrailer.2, u16le_lo_hi]

/-- An answer loaded in EXEC is a valid frame waiting to be sent (R223, R37). -/
theorem inv_answer {s : State} (h : s.Inv) (hp : s.phase = .exec) {P : List Byte} (hlen : 3 ≤ P.length)
    (hfit : P.length + 2 ≤ s.cfg.txMax) (o : OutcomeCode) :
    (report o (loadTx (withTrailer P) (clearRx s))).Inv := by
  have hF : (withTrailer P).length = P.length + 2 := withTrailer_length P
  have hx := h.xfail_lt (by simp [hp])
  exact { h with
    txWf := cellsWriteBurst_wf h.txWf (by omega)
    rxCntLe := by simp
    rxFull := by simp
    txOrder := ⟨by simp, hF.trans_le hfit⟩
    txWaiting := by simp
    txLeft := by simp
    rxEmpty := fun _ => rfl
    txFrameLen := fun _ => by simpa using hlen
    txFrameValid := fun _ => loaded_frame_valid h.txWf P
    xfailFatal := iff_of_false (Nat.ne_of_lt hx) nofun
    accumRuns := nofun
    stoppedAsked := nofun }

/-- A byte sent before the last one. -/
theorem inv_txMiddle {s : State} (h : s.Inv) (hp : s.phase = .respond) (hlast : s.txIdx + 1 ≠ s.txLen)
    (o : Output) :
    State.Inv { transportOk (emit o s) with txIdx := s.txIdx + 1 } := by
  have hidx := h.txLeft hp
  exact { h with
    txOrder := ⟨hidx, h.txOrder.2⟩
    txLeft := fun _ => Nat.lt_of_le_of_ne hidx hlast
    xfailLe := by simp
    xfailFatal := by simp [hp] }

/-- A transport failure counted in a state with nothing received and nothing waiting (R225, R28). -/
theorem inv_transportFailed {t : State} (h : t.Inv) (hcnt : t.rxCnt = 0) (hlen : t.txLen = 0)
    (hfatal : t.phase ≠ .fatal) : (transportFailed t).Inv := by
  have hexec : t.phase ≠ .exec := fun hp => by have := h.rxFull.2 hp; omega
  have hresp : t.phase ≠ .respond := fun hp => by have := h.txWaiting.2 hp; omega
  have hidx := h.txIdx_eq_zero hresp
  by_cases hk : min (t.xfail + 1) 3 = 3
  · have hphase : (transportFailed t).phase = .fatal := if_pos hk
    have hne : ∀ p, p ≠ .fatal → (transportFailed t).phase ≠ p := fun p hp he => hp (he.symm.trans hphase)
    exact .ofEmpty h.cfgLegal h.bankWf h.rxWf h.txWf hcnt hlen hidx (hne _ (by decide)) (hne _ (by decide))
      (Nat.min_le_right _ _) (iff_of_true hk hphase) (fun hp => absurd hp (hne _ (by decide)))
      (fun hp => absurd hp (hne _ (by decide)))
  · have hphase : (transportFailed t).phase = t.phase := if_neg hk
    exact .ofEmpty h.cfgLegal h.bankWf h.rxWf h.txWf hcnt hlen hidx (hphase ▸ hexec) (hphase ▸ hresp)
      (Nat.min_le_right _ _) (iff_of_false hk (hphase ▸ hfatal)) (fun hp => h.accumRuns (hphase ▸ hp))
      (fun hp => h.stoppedAsked (hphase ▸ hp))

/-- A shutdown in ACCUM, after whatever was received is discarded. -/
theorem inv_stop {s : State} (h : s.Inv) (hp : s.phase = .accum) (hcnt : s.rxCnt = 0) :
    State.Inv { latchStop s with phase := .stopped } := by
  have hx := h.xfail_lt (by simp [hp])
  exact .ofEmpty h.cfgLegal h.bankWf h.rxWf h.txWf hcnt (h.txLen_eq_zero (by simp [hp]))
    (h.txIdx_eq_zero (by simp [hp])) nofun nofun h.xfailLe (iff_of_false (Nat.ne_of_lt hx) nofun) nofun
    fun _ => rfl

/-- The state after Reset in a legal configuration, with any inputs to come and any record of outputs. -/
theorem inv_boot {c : Config} (hl : c.legal = true) (es : List Event) (os : List Output) :
    State.Inv { State.boot c with inputs := es, outputs := os } :=
  .ofEmpty hl ((legal_iff c).1 hl).2.2.2 rfl rfl rfl rfl rfl nofun nofun (by simp [State.boot])
    (iff_of_false (by simp [State.boot]) nofun) (fun _ => rfl) nofun

/-- Every effect of an event keeps the invariants. -/
theorem Effect.keepsInv {s t : State} {e : Event} (h : s.Inv) (he : Effect s e t) : t.Inv := by
  cases he with
  | rxByte b hp hc => exact inv_rxByte h b hp hc
  | timeout hp hc => exact inv_report (inv_clearRx h hp) _
  | dropped o hp ho => exact inv_drop h hp o
  | answered P o hp hlen hfit ho => exact inv_answer h hp hlen hfit o
  | txMiddle hp hi hlast => exact inv_txMiddle h hp hlast _
  | txLast hp hi hlast => exact inv_endResponse (inv_transportOk (inv_emit h _) (by simp [hp])) hp
  | errAccum hp =>
    exact inv_transportFailed (inv_clearRx h hp) rfl (h.txLen_eq_zero (by simp [hp])) (by simp [hp])
  | errRespond hp =>
    exact inv_transportFailed (inv_endResponse h hp) (h.rxEmpty (.inl hp)) rfl (idlePhase_ne _).2.2
  | stopEmpty hp hc => exact inv_stop h hp hc
  | stopPartial hp hc => exact inv_report (inv_stop (inv_clearRx h hp) hp rfl) _
  | stopLatched hp => exact { h with accumRuns := fun hp' => absurd hp' hp, stoppedAsked := fun _ => rfl }
  | locAnswered r ok vs => exact inv_emit h _
  | locWritten r x hop hw =>
    have hx : State.Inv { s with bank := x } := { h with bankWf := bankWrite_wf h.bankWf hw }
    exact inv_emit hx _
  | reset => exact inv_boot h.cfgLegal _ _
  | passed e hne => exact h

/-- Settles O43: every field of the reset state is at its reset value. -/
theorem resetStateMeetsInvariants : Obligations.ResetStateMeetsInvariants :=
  ⟨inv_boot (c := Config.reference) (by decide) [] [], fun _ es hl => inv_boot hl es []⟩

/-- Settles O44: a step is an effect of the event at hand on the state that has consumed it. -/
theorem everyStepKeepsInvariants : Obligations.EveryStepKeepsInvariants :=
  fun _ _ h hstep => (effect_of_step hstep).keepsInv (inv_withInputs h _)

end Sys2Proof.Machine

/-! SUPPORT. What every step keeps and what it can emit, read off the effects of the events; and what a run of any
number of steps keeps. -/

namespace Sys2Proof.Machine

/-! ### What an effect keeps -/

/-- No event changes the configuration (decision D19). -/
theorem Effect.cfg_eq {s t : State} {e : Event} (he : Effect s e t) : t.cfg = s.cfg := by
  cases he <;> rfl

/-- No event adds or removes an input to come. -/
theorem Effect.inputs_eq {s t : State} {e : Event} (he : Effect s e t) : t.inputs = s.inputs := by
  cases he <;> rfl

/-- Only a local-port write and Reset change the bank (R23). -/
theorem Effect.bank_eq {s t : State} {e : Event} (he : Effect s e t) (hb : e.mayChangeBank = false) :
    t.bank = s.bank := by
  cases he with
  | locWritten r x hop hw => exact absurd (hop.symm.trans hb) (by decide)
  | reset => cases hb
  | _ => rfl

/-- Only Reset clears the stop latch (R29). -/
theorem Effect.stopReq_kept {s t : State} {e : Event} (he : Effect s e t) (hr : e ≠ .reset)
    (hs : s.stopReq = true) : t.stopReq = true := by
  cases he with
  | reset => exact absurd rfl hr
  | stopEmpty | stopPartial | stopLatched => rfl
  | _ => exact hs

/-- An event at hand that is not the internal step is the next input. -/
theorem head?_eq_of_nextEvent {s : State} {e : Event} (h : nextEvent s = e) (he : e ≠ .internal) :
    s.inputs.head? = some e := by
  cases hi : s.inputs with
  | nil => rw [nextEvent, hi] at h; exact absurd h.symm he
  | cons e' es => rw [← h, nextEvent_cons hi]; rfl

/-- The event at hand is the internal step, or is among the inputs. -/
theorem nextEvent_internal_or_mem (s : State) : nextEvent s = .internal ∨ nextEvent s ∈ s.inputs := by
  cases hi : s.inputs with
  | nil => left; rw [nextEvent, hi]; rfl
  | cons e es => right; rw [nextEvent_cons hi]; exact List.mem_cons_self

/-! ### Runs -/

/-- A run of one step more is a step and then the run. -/
theorem runSteps_succ {k : Nat} {s t : State} (h : step s = .next t) : runSteps (k + 1) s = runSteps k t := by
  rw [runSteps, h]

/-- What every step keeps, every run keeps. -/
theorem runSteps_keeps {I : State → Prop} (hstep : ∀ s t, I s → step s = .next t → I t) {k : Nat}
    {s t : State} (hs : I s) (h : runSteps k s = .next t) : I t := by
  induction k generalizing s with
  | zero => cases h; exact hs
  | succ k ih =>
    cases hu : step s with
    | next u => exact ih (hstep s u hs hu) (runSteps_succ hu ▸ h)
    | fault f => rw [runSteps, hu] at h; cases h
    | refused r => rw [runSteps, hu] at h; cases h

/-- What every step keeps at events of a kind that includes the internal step, a run keeps whose inputs are all of
this kind. -/
theorem runSteps_keeps_of_inputs {p : Event → Prop} {I : State → Prop} (hint : p .internal)
    (hstep : ∀ u v, I u → p (nextEvent u) → Effect (consume u) (nextEvent u) v → I v) {k : Nat} {s t : State}
    (hin : ∀ e ∈ s.inputs, p e) (hs : I s) (h : runSteps k s = .next t) : I t := by
  refine (runSteps_keeps (I := fun u => I u ∧ ∀ e ∈ u.inputs, p e) ?_ ⟨hs, hin⟩ h).1
  rintro u v ⟨hu, hinputs⟩ huv
  have he := effect_of_step huv
  have hev : p (nextEvent u) := by
    rcases nextEvent_internal_or_mem u with hint' | hmem
    · rw [hint']; exact hint
    · exact hinputs _ hmem
  refine ⟨hstep u v hu hev he, fun e hmem => hinputs e (List.mem_of_mem_tail ?_)⟩
  rwa [he.inputs_eq] at hmem

/-- Settles O46: no effect changes the configuration, so no run does. -/
theorem configurationIsStatic : Obligations.ConfigurationIsStatic := by
  intro k s t h
  exact runSteps_keeps (I := fun u => u.cfg = s.cfg)
    (fun u v hu huv => (effect_of_step huv).cfg_eq.trans hu) rfl h

/-- Settles O47: a step that meets no local-port write and no Reset keeps the bank. -/
theorem onlyLocalWritesAndResetChangeTheBank : Obligations.OnlyLocalWritesAndResetChangeTheBank := by
  intro k s t hin h
  exact runSteps_keeps_of_inputs (p := fun e => e.mayChangeBank = false) (I := fun u => u.bank = s.bank) rfl
    (fun u v hu hev he => (he.bank_eq hev).trans hu) hin rfl h

/-- Settles O48: Reset is not the event at hand, and no other event clears the latch. -/
theorem stopRequestIsKeptUntilReset : Obligations.StopRequestIsKeptUntilReset := by
  intro s t hs hr h
  exact (effect_of_step h).stopReq_kept (fun hev => hr (head?_eq_of_nextEvent hev nofun)) hs

/-! ### Stopping and emitting -/

/-- Settles O45: a good state answers every event but a local-port request, which the port can only refuse. -/
theorem goodStatesNeverStop : Obligations.GoodStatesNeverStop := by
  intro s h
  have hl := h.cfgLegal
  have hrun : (∃ t, step s = .next t) ∨
      step s = .refused .notPresentable ∧ ∃ q, nextEvent s = .loc q := by
    rw [step_eq_runEvent hl]
    cases nextEvent s with
    | internal =>
      by_cases hp : s.phase = .exec
      · rcases internal_cases (s := consume s) hp with ⟨_, -, hn⟩ | ⟨_, _, -, -, -, hn⟩ <;> exact .inl ⟨_, hn⟩
      · exact .inl ⟨_, internal_idle hp⟩
    | txReady =>
      by_cases hp : s.phase = .respond
      · by_cases hlast : s.txIdx + 1 = s.txLen
        · exact .inl ⟨_, txByte_last (s := consume s) hp (h.txIdx_lt hp) hlast⟩
        · exact .inl ⟨_, txByte_middle (s := consume s) hp (h.txIdx_lt hp) hlast⟩
      · exact .inl ⟨_, txByte_of_ne_respond hp⟩
    | loc r =>
      rcases localPort_cases r (consume s) with hr | ⟨_, -, hn⟩ | hn | ⟨_, -, -, hn⟩
      · exact .inr ⟨hr, r, rfl⟩
      all_goals exact .inl ⟨_, hn⟩
    | rxByte | rxTimeout | xportErr | shutdown | reset => exact .inl ⟨_, rfl⟩
  rcases hrun with ⟨t, ht⟩ | ⟨hr, q, hq⟩
  · rw [ht]; exact ⟨nofun, nofun⟩
  · rw [hr]
    refine ⟨nofun, fun r hrr => ⟨by cases hrr; rfl, q, ?_⟩⟩
    exact List.head?_eq_some_iff.1 (head?_eq_of_nextEvent hq nofun)

/-- Settles O49: of the effects, the bytes sent, the outcomes reported and the local port's answers are the ones
that emit, each one thing. -/
theorem stepEmitsAtMostOneThing : Obligations.StepEmitsAtMostOneThing := by
  intro s t h
  have he := effect_of_step h
  generalize hev : nextEvent s = e at he
  cases he with
  | rxByte | stopEmpty | stopLatched | passed => exact .inl ⟨rfl, .inl rfl⟩
  | timeout | errAccum | errRespond | stopPartial => exact .inr ⟨_, rfl, rfl, by decide⟩
  | dropped o hp ho => exact .inr ⟨_, rfl, rfl, by rcases ho with rfl | rfl <;> decide⟩
  | answered P o hp hlen hfit ho => exact .inr ⟨_, rfl, rfl, by rcases ho with rfl | rfl | rfl <;> decide⟩
  | txMiddle hp hi hlast => exact .inr ⟨_, rfl, hp, rfl, (decide_eq_false hlast).symm, rfl⟩
  | txLast hp hi hlast => exact .inr ⟨_, rfl, hp, rfl, (decide_eq_true hlast).symm, rfl⟩
  | locAnswered r => exact .inr ⟨_, rfl, rfl, r, head?_eq_of_nextEvent hev nofun⟩
  | locWritten r => exact .inr ⟨_, rfl, rfl, r, head?_eq_of_nextEvent hev nofun⟩
  | reset => exact .inl ⟨rfl, .inr (head?_eq_of_nextEvent hev nofun)⟩

/-! ### Phases -/

/-- Outside FATAL the failure that saturates the count is the third (R28). -/
theorem State.Inv.saturated_iff_two {s : State} (h : s.Inv) (hp : s.phase ≠ .fatal) :
    min (s.xfail + 1) 3 = 3 ↔ s.xfail = 2 := by
  have hx := h.xfail_lt hp
  omega

/-- Settles O36: each effect is one cell of the table; where no step is enabled the state is as it was. -/
theorem phaseTransitionTable : Obligations.PhaseTransitionTable := by
  intro s t e es h hi hstep
  have he := effect_of_step hstep
  rw [nextEvent_cons hi] at he
  cases he with
  | rxByte b hp hc => simp [show s.phase = .accum from hp]
  | timeout hp hc => simp [show s.phase = .accum from hp]
  | dropped o hp ho =>
    have hp' : s.phase = .exec := hp
    have hlen := h.txLen_eq_zero (by simp [hp'])
    rcases ho with rfl | rfl <;> simp [hp', hlen]
  | answered P o hp hlen hfit ho => simp [show s.phase = .exec from hp, ho]
  | txMiddle hp hi' hlast =>
    have hne : s.txIdx + 1 ≠ s.txLen := hlast
    simp [show s.phase = .respond from hp, hne]
  | txLast hp hi' hlast =>
    have heq : s.txIdx + 1 = s.txLen := hlast
    simp [show s.phase = .respond from hp, heq]
  | errAccum hp =>
    have hp' : s.phase = .accum := hp
    simp [hp', h.saturated_iff_two (by simp [hp'])]
  | errRespond hp =>
    have hp' : s.phase = .respond := hp
    simp [hp', h.saturated_iff_two (by simp [hp'])]
  | stopEmpty hp hc => simp [show s.phase = .accum from hp]
  | stopPartial hp hc => simp [show s.phase = .accum from hp]
  | stopLatched hp =>
    have hp' : s.phase ≠ .accum := hp
    cases hphase : s.phase with
    | accum => exact absurd hphase hp'
    | exec => exact ⟨hphase, rfl⟩
    | respond => exact ⟨hphase, rfl⟩
    | _ => exact hphase
  | locAnswered r ok vs => simp
  | locWritten r x hop hw => simp
  | reset => simp
  | passed e hne =>
    cases e with
    | rxByte b =>
      cases hphase : s.phase with
      | accum => exact absurd ⟨hphase, h.rxCnt_lt (by simp [hphase])⟩ hne
      | _ => exact hphase
    | rxTimeout =>
      cases hphase : s.phase with
      | accum => exact ⟨hphase, Nat.eq_zero_of_not_pos fun hpos => hne ⟨hphase, hpos⟩⟩
      | _ => exact hphase
    | internal =>
      cases hphase : s.phase with
      | exec => exact absurd hphase hne
      | _ => exact hphase
    | txReady =>
      cases hphase : s.phase with
      | respond => exact absurd hphase hne
      | _ => exact hphase
    | xportErr =>
      cases hphase : s.phase with
      | accum => exact absurd (.inl hphase) hne
      | respond => exact absurd (.inr hphase) hne
      | _ => exact hphase
    | shutdown | loc | reset => exact absurd trivial hne

/-- Outside ACCUM a whole request waits in EXEC, or nothing has been received (R37). -/
theorem State.Inv.rxCnt_of_ne_accum {s : State} (h : s.Inv) (hp : s.phase ≠ .accum) :
    (s.phase = .exec ∧ s.rxCnt = 8) ∨ s.rxCnt = 0 := by
  cases hphase : s.phase with
  | accum => exact absurd hphase hp
  | exec => exact .inl ⟨rfl, h.rxFull.2 hphase⟩
  | respond => exact .inr (h.rxEmpty (.inl hphase))
  | stopped => exact .inr (h.rxEmpty (.inr (.inl hphase)))
  | fatal => exact .inr (h.rxEmpty (.inr (.inr hphase)))

/-- Settles O38: a timeout, an error and a shutdown empty the receive buffer in ACCUM and find it empty, or pass by,
elsewhere but in EXEC; Reset empties it. -/
theorem noPartialFrameSurvives : Obligations.NoPartialFrameSurvives := by
  intro s t e es h hi hkind hstep
  have he := effect_of_step hstep
  rw [nextEvent_cons hi] at he
  cases he with
  | timeout | errAccum | stopPartial | reset => exact .inr rfl
  | errRespond hp => exact .inr (h.rxEmpty (.inl hp))
  | stopEmpty hp hc => exact .inr hc
  | stopLatched hp =>
    rcases h.rxCnt_of_ne_accum hp with ⟨hexec, h8⟩ | h0
    · exact .inl ⟨hexec, h8, rfl, hexec, nofun⟩
    · exact .inr h0
  | passed e hne =>
    have hreset : e ≠ .reset := fun he => hne (by subst he; trivial)
    by_cases hp : s.phase = .accum
    · -- Only a timeout with nothing received passes by in ACCUM.
      have hcnt : e = .rxTimeout → s.rxCnt = 0 := fun he =>
        Nat.eq_zero_of_not_pos fun hpos => hne (by subst he; exact ⟨hp, hpos⟩)
      rcases hkind with rfl | rfl | rfl | rfl
      · exact .inr (hcnt rfl)
      · exact absurd (.inl hp) hne
      · exact absurd trivial hne
      · exact absurd rfl hreset
    · rcases h.rxCnt_of_ne_accum hp with ⟨hexec, h8⟩ | h0
      · exact .inl ⟨hexec, h8, rfl, hexec, hreset⟩
      · exact .inr h0
  | rxByte | dropped | answered | txMiddle | txLast | locAnswered | locWritten => simp at hkind

/-- Settles O39: in STOPPED and FATAL no step of the request path is enabled, so only the local port and the stop
latch are left, which keep the phase and add no byte and no outcome. -/
theorem stoppedAndFatalAreFinal : Obligations.StoppedAndFatalAreFinal := by
  intro s t hp hr hstep
  have he := effect_of_step hstep
  have hquiet : t.phase = s.phase ∧
      (t.outputs = s.outputs ∨ ∃ ok vs, t.outputs = .loc ok vs :: s.outputs) := by
    generalize hev : nextEvent s = e at he
    cases he with
    | rxByte _ hp' | timeout hp' | dropped _ hp' | answered _ _ hp' | txMiddle hp' | txLast hp' | errAccum hp'
    | errRespond hp' | stopEmpty hp' | stopPartial hp' =>
      have hphase : s.phase = _ := hp'
      simp [hphase] at hp
    | stopLatched | passed => exact ⟨rfl, .inl rfl⟩
    | locAnswered | locWritten => exact ⟨rfl, .inr ⟨_, _, rfl⟩⟩
    | reset => exact absurd (head?_eq_of_nextEvent hev nofun) hr
  obtain ⟨hphase, hout⟩ := hquiet
  have hsent : sentBytes t = sentBytes s ∧ outcomes t = outcomes s := by
    rcases hout with hout | ⟨ok, vs, hout⟩ <;> simp [sentBytes, outcomes, hout]
  refine ⟨hphase, hsent.1, hsent.2, ?_⟩
  rcases hp with hp | hp <;> simp [rxReady, txValid, xportRelease, stopped, fatal, hphase, hp]

end Sys2Proof.Machine

/-! SUPPORT. The sequencer's steps as whole steps of the machine (R221 to R228): the exact next state at each event. -/

namespace Sys2Proof.Machine

/-! ### One step -/

/-- Settles O28: in EXEC the step is the internal step, which runs the request fetched; at a presentable local-port
request it is that request's instruction. -/
theorem stepRunsTheDecodedInstruction : Obligations.StepRunsTheDecodedInstruction := by
  intro s i hl
  have hinternal : ∀ u : State, u.phase = .exec → decodeReq8 (rxBytes u) = .ok i → internal u = exec i u := by
    intro u hp hd
    rw [internal, if_pos hp, fetchRequest, hd]
  refine ⟨fun hp hi hd => ?_, fun es hp hi hd => ?_, fun r es hi hd hw => step_loc hl hi hd hw⟩
  · rw [step_internal hl hi, hinternal s hp hd]
  · rw [step_event hl hi]; exact hinternal { s with inputs := es } hp hd

/-- Settles O30: the byte is stored at `rx_cnt` and no other index, by the laws of one write. -/
theorem rxByteAccumulates : Obligations.RxByteAccumulates := by
  intro s b es hl hi
  rw [step_event hl hi]
  refine ⟨fun hp hc hwf => ⟨cellsWrite s.rxBuf s.rxCnt b, ?_, cellsRead_write_same hwf _ _,
    fun i hne => cellsRead_write_other _ _ hne⟩, fun hp => ?_⟩
  · exact congrArg Host.Outcome.next (rxByte_accum (s := { s with inputs := es }) b hp hc)
  · exact congrArg Host.Outcome.next (rxByte_of_ne_accum (s := { s with inputs := es }) b hp)

/-- Settles O31. -/
theorem rxTimeoutDiscardsAPartialFrame : Obligations.RxTimeoutDiscardsAPartialFrame := by
  intro s es hl hi
  rw [step_event hl hi]
  exact ⟨fun hp hc => congrArg Host.Outcome.next (rxTimeout_partial (s := { s with inputs := es }) hp hc),
    fun h => congrArg Host.Outcome.next (rxTimeout_of_not (s := { s with inputs := es }) h)⟩

/-- Settles O32: the byte at `tx_idx` exists, and it is the last one or not. -/
theorem txByteSendsInOrder : Obligations.TxByteSendsInOrder := by
  intro s es hl hi
  rw [step_event hl hi]
  refine ⟨fun hp hidx hlen => ?_, fun hp => txByte_of_ne_respond hp⟩
  have hmax : s.txIdx < s.cfg.txMax := by omega
  by_cases hlast : s.txIdx + 1 = s.txLen
  · rw [if_pos hlast]; exact txByte_last (s := { s with inputs := es }) hp hmax hlast
  · rw [if_neg hlast]; exact txByte_middle (s := { s with inputs := es }) hp hmax hlast

/-- A counted failure is FATAL from two failures on (R28). -/
theorem transportFailed_eq (s : State) :
    transportFailed s = { s with xfail := min (s.xfail + 1) 3, phase := if 2 ≤ s.xfail then .fatal else s.phase,
                                 lastOutcome := .transportError,
                                 outputs := .diag .transportError :: s.outputs } := by
  simp only [transportFailed, report, emit, fatalThreshold_eq, saturated_iff]

/-- Settles O33: the failure is counted after what was in progress is abandoned. -/
theorem xportErrAbandonsAndCounts : Obligations.XportErrAbandonsAndCounts := by
  intro s es hl hi
  rw [step_event hl hi]
  refine ⟨fun hp => ?_, fun hp => ?_, fun ha hr => ?_⟩
  · rw [runEvent, xportErr_accum (s := { s with inputs := es }) hp, transportFailed_eq, clearRx_phase, hp]
    rfl
  · rw [runEvent, xportErr_respond (s := { s with inputs := es }) hp, transportFailed_eq]
    rfl
  · exact congrArg Host.Outcome.next (xportErr_other (s := { s with inputs := es }) ha hr)

/-- Settles O34. -/
theorem shutdownStopsAtTheSuspensionPoint : Obligations.ShutdownStopsAtTheSuspensionPoint := by
  intro s es hl hi
  rw [step_event hl hi]
  exact ⟨fun hp hc => congrArg Host.Outcome.next (shutdown_accum_empty (s := { s with inputs := es }) hp hc),
    fun hp hc => congrArg Host.Outcome.next (shutdown_accum_partial (s := { s with inputs := es }) hp hc),
    fun hp => congrArg Host.Outcome.next (shutdown_of_ne_accum (s := { s with inputs := es }) hp)⟩

/-- Settles O35: the step is Reset, whatever the state. -/
theorem resetClearsEverything : Obligations.ResetClearsEverything := by
  intro s es hl hi
  exact ⟨_, step_event hl hi, rfl, fun _ => rfl, rfl, rfl, rfl, rfl, rfl, rfl, rfl, rfl, rfl⟩

/-- Settles O42: with no input the step is the internal step, which outside EXEC changes nothing; and RESPOND is no
quiescent phase. -/
theorem idleMachineStaysAsItIs : Obligations.IdleMachineStaysAsItIs := by
  refine ⟨fun s hl hi hp => (step_internal hl hi).trans (internal_idle hp), fun s h hq => ?_⟩
  refine h.txLen_eq_zero fun hp => ?_
  rw [Quiescent, hp] at hq
  simp at hq

/-! ### Failures in a row -/

/-- In ACCUM a failure that is not yet the third is counted, and the request path waits on with nothing received. -/
theorem step_xportErr_below {s : State} {es : List Event} (hl : s.cfg.legal = true) (hp : s.phase = .accum)
    (hx : s.xfail < 2) (hi : s.inputs = .xportErr :: es) :
    ∃ t, step s = .next t ∧ t.cfg = s.cfg ∧ t.phase = .accum ∧ t.xfail = s.xfail + 1 ∧ t.rxCnt = 0 ∧
      t.inputs = es ∧ t.bank = s.bank :=
  ⟨_, (xportErrAbandonsAndCounts s es hl hi).1 hp, rfl, if_neg (Nat.not_le.2 hx),
    Nat.min_eq_left (by omega), rfl, rfl, rfl⟩

/-- Two failures in a row leave the request path waiting. -/
theorem runSteps_two_failures {s : State} {es : List Event} (hl : s.cfg.legal = true) (hp : s.phase = .accum)
    (hx : s.xfail = 0) (hi : s.inputs = .xportErr :: .xportErr :: es) :
    ∃ t, (∀ k, runSteps (k + 2) s = runSteps k t) ∧ t.cfg = s.cfg ∧ t.phase = .accum ∧ t.xfail = 2 ∧ t.rxCnt = 0 ∧
      t.inputs = es ∧ t.bank = s.bank := by
  obtain ⟨u, hu, hucfg, hup, hux, -, hui, hub⟩ := step_xportErr_below hl hp (by omega) hi
  obtain ⟨t, ht, htcfg, htp, htx, htc, hti, htb⟩ :=
    step_xportErr_below (hucfg ▸ hl) hup (by omega) hui
  refine ⟨t, fun k => ?_, htcfg.trans hucfg, htp, by omega, htc, hti, htb.trans hub⟩
  rw [runSteps_succ hu, runSteps_succ ht]

/-- Settles O40: two failures leave the request path waiting; the next event is the third failure, or a byte. -/
theorem threeFailuresInARowAreFatal : Obligations.ThreeFailuresInARowAreFatal := by
  intro s es hl hp hx hi
  obtain ⟨t, hrun, htcfg, htp, htx, -, hti, htb⟩ := runSteps_two_failures hl hp hx hi
  refine ⟨⟨t, hrun 0, htp, htx⟩, ?_, fun b => ?_⟩
  · refine ⟨_, (hrun 1).trans (runSteps_succ ((xportErrAbandonsAndCounts t es (htcfg ▸ hl) hti).1 htp)), ?_, ?_, htb⟩
    · exact if_pos htx.ge
    · simp [htx]
  · obtain ⟨v, hrun', hvcfg, hvp, -, hvc, hvi, -⟩ :=
      runSteps_two_failures (s := { s with inputs := [.xportErr, .xportErr, .rxByte b] }) hl hp hx rfl
    have hbyte := rxByte_accum (s := { v with inputs := [] }) b hvp (by simp [hvc])
    refine ⟨_, (hrun' 1).trans (runSteps_succ ((step_event (hvcfg ▸ hl) hvi).trans
      (congrArg Host.Outcome.next hbyte))), ?_, rfl⟩
    simp [hvc]

end Sys2Proof.Machine

/-! SUPPORT. The meanings of the requests and of the output formats (R150 to R157, R170, R171, R223): each request is
dropped, or runs one output format; what that format loads; and Exec as the spec writes it. -/

namespace Sys2Proof.Machine

/-! ### The output formats -/

/-- RESP_RHR with a frame that fits loads it with outcome OK_RESPONSE (R170, R223). -/
theorem exec_respRhr {s : State} {vs : List Word} (u b : Byte) (c : Word) (h : vs.length ≤ s.cfg.n) :
    exec (.respRhr u b vs c) s = .next (report .okResponse (loadTx (encodeResponse u 0x03#8 b vs) s)) :=
  answer_fits _ (by rw [fcReadHoldingRegisters_eq, encodeResponse_length, Config.txMax]; omega)

/-- RESP_EXC always loads its frame, with the outcome of its code (R171, R223). -/
theorem exec_respExc (u f e : Byte) (c : Word) (s : State) :
    exec (.respExc u f e c) s =
      .next (report (if e = 0x01#8 then .excIllegalFunction else .excIllegalDataAddress)
        (loadTx (encodeException u f e) s)) := by
  rw [exec, execRespExc, answer_fits _ (by rw [encodeException_length, Config.txMax]; omega)]

/-- Setting bit 7 where it is set changes nothing (R171). -/
theorem or_0x80_of_bit7 {f : Byte} (h : f.getLsbD 7 = true) : f ||| 0x80#8 = f := by
  apply BitVec.eq_of_getLsbD_eq
  intro i hi
  rw [BitVec.getLsbD_or]
  by_cases h7 : i = 7
  · rw [h7, h, Bool.true_or]
  · have hbit : (0x80#8).getLsbD i = false := by
      rw [show 0x80#8 = BitVec.twoPow 8 7 from rfl, BitVec.getLsbD_twoPow, decide_eq_false (Ne.symm h7),
        Bool.and_false]
    rw [hbit, Bool.or_false]

/-- Loading a frame leaves the transmit buffer beyond it alone. -/
theorem cellsRead_loadTx_beyond (F : List Byte) (s : State) {i : Nat} (h : F.length ≤ i) :
    cellsRead (loadTx F s).txBuf i = cellsRead s.txBuf i :=
  cellsRead_writeBurst_outside s.txBuf (.inr (by omega))

/-- Settles O16: the frame fits, and what is loaded is read back. -/
theorem respRhrLoadsItsFrame : Obligations.RespRhrLoadsItsFrame := by
  intro s u b vs c hwf hlen
  have hF : (encodeResponse u 0x03#8 b vs).length = 5 + 2 * vs.length := encodeResponse_length _ _ _ _
  refine ⟨_, exec_respRhr u b c hlen, txFrame_report_loadTx hwf _ _, fun i hi => ?_, ?_⟩
  · exact cellsRead_loadTx_beyond _ s (by omega)
  · simp only [report, emit, loadTx, hF]

/-- Settles O17: the frame has five bytes, and what is loaded is read back. -/
theorem respExcLoadsItsFrame : Obligations.RespExcLoadsItsFrame := by
  intro s u f e c hwf
  exact ⟨_, _, exec_respExc u f e c s, rfl, txFrame_report_loadTx hwf _ _,
    fun i hi => cellsRead_loadTx_beyond _ s hi, rfl⟩

/-- Settles O19: the frame has `5 + 2n` bytes, more than the buffer. -/
theorem respRhrTooLongStops : Obligations.RespRhrTooLongStops := by
  intro s u b vs c h
  exact answer_too_long _ (by rw [encodeResponse_length, Config.txMax]; omega)

/-- Settles O18: in a well-formed output instruction the trailer operand is the CRC that the encoder computes. -/
theorem wellFormedOutputIsLoadedAsEncoded : Obligations.WellFormedOutputIsLoadedAsEncoded := by
  intro s t i F hwf hw henc hexec
  cases i with
  | respRhr u b vs c =>
    simp only [Instr.wellFormed, Bool.and_eq_true, decide_eq_true_eq, verify_iff] at hw
    obtain ⟨⟨⟨-, hn⟩, -⟩, hc⟩ := hw
    cases henc
    cases (exec_respRhr u b c hn).symm.trans hexec
    rw [txFrame_report_loadTx hwf, ← hc]; rfl
  | respExc u f e c =>
    simp only [Instr.wellFormed, Bool.and_eq_true, verify_iff] at hw
    obtain ⟨⟨hf, -⟩, hc⟩ := hw
    cases henc
    cases (exec_respExc u f e c s).symm.trans hexec
    rw [txFrame_report_loadTx hwf, encodeException, exceptionBody, or_0x80_of_bit7 hf, ← hc]; rfl
  | rhr | illfn | bankRead | bankWrite => cases henc

/-! ### The requests -/

/-- The byte count of `n` registers, as the model computes it and as the statements write it (R86). -/
theorem byteCount_eq (n : Word) : byteCount n = BitVec.ofNat 8 (2 * n.toNat) := by
  rw [byteCount, Nat.mul_comm]

/-- An RHR in range that passes the checks loads the response with the registers read (R154, R156). -/
theorem exec_rhr_inRange {s : State} {u : Byte} {a n c : Word}
    (hv : verify (requestBody u 0x03#8 a n) c = true) (hu : u = s.cfg.unitId) (hn : n ≠ 0#16)
    (hr : a.toNat + n.toNat ≤ s.cfg.n) :
    exec (.rhr u a n c) s = .next (report .okResponse
      (loadTx (encodeResponse u 0x03#8 (byteCount n) (memRead s.bank a.toNat n.toNat)) (clearRx s))) := by
  have hserve : exec (.rhr u a n c) s = serveRhr u a n (clearRx s) := admitRequest_of_admitted hv hu _
  rw [hserve]
  rcases serveRhr_cases u a n (clearRx s) with ⟨hout, -⟩ | ⟨-, -, hok⟩
  · rw [clearRx_cfg] at hout; exact absurd hout (not_or.mpr ⟨hn, Nat.not_lt.mpr hr⟩)
  · exact hok

/-- Settles O13: the two checks in their order, the trailer first. -/
theorem unadmittedRequestsAreDropped : Obligations.UnadmittedRequestsAreDropped := by
  intro s u f a n c i hi
  -- Either request is the checks followed by work of its own.
  obtain ⟨k, hk⟩ : ∃ k, exec i s = admitRequest u f a n c k s := by
    rcases hi with ⟨rfl, rfl⟩ | rfl
    · exact ⟨_, rfl⟩
    · exact ⟨_, rfl⟩
  rw [hk]
  rcases admit_cases u f a n c k s with ⟨hv, hd⟩ | ⟨hv, hu, hd⟩ | ⟨hv, hu, -⟩
  · exact ⟨fun _ => hd, fun hv' => absurd (hv.symm.trans hv') (by decide)⟩
  · exact ⟨fun hv' => absurd (hv.symm.trans hv') (by decide), fun _ _ => hd⟩
  · exact ⟨fun hv' => absurd (hv.symm.trans hv') (by decide), fun _ hu' => absurd hu hu'⟩

/-- Settles O20: each request and its output format load the same frame with the same outcome. -/
theorem requestsRunTheOutputFormats : Obligations.RequestsRunTheOutputFormats := by
  intro s u f a n c c' hu
  refine ⟨fun hv hn hr => ?_, fun hv hr => ?_, fun hv => ?_⟩
  · rw [exec_rhr_inRange hv hu hn hr, exec_respRhr _ _ _ (by rw [memRead_length]; show n.toNat ≤ s.cfg.n; omega),
      byteCount_eq]
    rfl
  · rw [exec_rhr_outOfRange hv hu hr, exec_respExc]; rfl
  · rw [exec_illfn_admitted hv hu, exec_respExc, encodeException_or_0x80]; rfl

/-- A request dropped keeps everything, the whole transmit buffer included. -/
theorem kept_drop (o : OutcomeCode) (s : State) : KeptByRequest 0 s (drop o (clearRx s)) :=
  ⟨rfl, rfl, rfl, rfl, rfl, rfl, fun _ _ => rfl⟩

/-- A request answered keeps everything but the bytes of its frame. -/
theorem kept_answer {F : List Byte} {len : Nat} (hF : F.length = len) (o : OutcomeCode) (s : State) :
    KeptByRequest len s (report o (loadTx F (clearRx s))) :=
  ⟨rfl, rfl, rfl, rfl, rfl, rfl, fun _ hi => cellsRead_loadTx_beyond F (clearRx s) (hF ▸ hi)⟩

/-- A request that fails one of the two checks is dropped, whatever its own work would be. -/
theorem dropped_of_not_admitted {u f : Byte} {a n c : Word} {s : State} (k : State → Result)
    (h : ¬ (verify (requestBody u f a n) c = true ∧ u = s.cfg.unitId)) :
    ∃ o, admitRequest u f a n c k s = .next (drop o (clearRx s)) := by
  rcases admit_cases u f a n c k s with ⟨-, hd⟩ | ⟨-, -, hd⟩ | ⟨hv, hu, -⟩
  · exact ⟨_, hd⟩
  · exact ⟨_, hd⟩
  · exact absurd ⟨hv, hu⟩ h

/-- Settles O14: a drop loads nothing, an exception five bytes, a response `5 + 2n`. -/
theorem requestsKeepEverythingElse : Obligations.RequestsKeepEverythingElse := by
  intro s t u f a n c
  constructor
  · intro h
    by_cases hadm : verify (requestBody u 0x03#8 a n) c = true ∧ u = s.cfg.unitId
    · obtain ⟨hv, hu⟩ := hadm
      rw [if_pos ⟨hv, hu⟩]
      by_cases hr : n = 0#16 ∨ s.cfg.n < a.toNat + n.toNat
      · rw [if_pos hr]
        cases (exec_rhr_outOfRange hv hu hr).symm.trans h
        exact kept_answer (F := withTrailer [_, _, _]) rfl _ s
      · rw [if_neg hr]
        rw [not_or, Nat.not_lt] at hr
        cases (exec_rhr_inRange hv hu hr.1 hr.2).symm.trans h
        exact kept_answer (by rw [encodeResponse_length, memRead_length]) _ s
    · rw [if_neg hadm]
      obtain ⟨o, ho⟩ := dropped_of_not_admitted (serveRhr u a n) hadm
      cases ho.symm.trans h
      exact kept_drop o s
  · intro h
    by_cases hadm : verify (requestBody u f a n) c = true ∧ u = s.cfg.unitId
    · rw [if_pos hadm]
      cases (exec_illfn_admitted hadm.1 hadm.2).symm.trans h
      exact kept_answer (F := withTrailer [_, _, _]) rfl _ s
    · rw [if_neg hadm]
      obtain ⟨o, ho⟩ := dropped_of_not_admitted (raiseException u f .illegalFunction) hadm
      cases ho.symm.trans h
      exact kept_drop o s

/-- The register bytes of a response are the registers read, high byte first. -/
theorem flatMap_memRead (x : Bank) (a n : Nat) : (memRead x a n).flatMap be2 = registerBytes x a n := by
  rw [memRead_eq_map_range, List.flatMap_map]; rfl

/-- The frame that answers a read is the success response with the registers it read (R154). -/
theorem txFrame_okResponse {m : Nat} {s : State} (hwf : Memory.wf m s.txBuf = true) (u : Byte) (n : Word) (x : Bank)
    (a : Nat) :
    txFrame (report .okResponse (loadTx (encodeResponse u 0x03#8 (byteCount n) (memRead x a n.toNat)) s)) =
      withTrailer ([u, 0x03#8, byteCount n] ++ registerBytes x a n.toNat) := by
  rw [txFrame_report_loadTx hwf, encodeResponse, responseBody, flatMap_memRead]

/-- Settles O10: the loaded frame is the encoded response, and the bank's size bounds the byte count. -/
theorem rhrInRangeAnswersTheRegisters : Obligations.RhrInRangeAnswersTheRegisters := by
  intro s u a n c hl hwf hv hu hn hr
  have hmax := ((legal_iff s.cfg).1 hl).2.1
  refine ⟨_, exec_rhr_inRange hv hu hn hr, ?_, by omega, ?_, rfl, rfl, rfl, rfl, rfl⟩
  · rw [txFrame_okResponse (s := clearRx s) hwf, byteCount_eq]
  · exact (encodeResponse_length _ _ _ _).trans (by rw [memRead_length])

end Sys2Proof.Machine

/-! SUPPORT. The internal step Exec (R223) as the spec's own text: DECODE, PROCESS, ENCODE; the outcome it reports
(R261); and what it leaves to the other statements about EXEC. -/

namespace Sys2Proof.Machine

/-- PROCESS of a request for another unit is silent (R151). -/
theorem process_otherUnit {cfg : Config} {x : Bank} {r : RequestFrame} (hu : r.unitId ≠ cfg.unitId) :
    process cfg x r = .silent :=
  if_pos hu

/-- PROCESS of another function code is exception 0x01 (R152). -/
theorem process_otherFunction {cfg : Config} {x : Bank} {r : RequestFrame} (hu : r.unitId = cfg.unitId)
    (hf : r.functionCode ≠ 0x03#8) :
    process cfg x r = .exceptionFrame r.unitId (r.functionCode ||| 0x80#8) 0x01#8 := by
  rw [process, if_neg (not_not.mpr hu), fcReadHoldingRegisters_eq, if_pos hf]

/-- PROCESS of a read out of range is exception 0x02 (R153). -/
theorem process_outOfRange {cfg : Config} {x : Bank} {r : RequestFrame} (hu : r.unitId = cfg.unitId)
    (hf : r.functionCode = 0x03#8)
    (hr : r.registerCount = 0#16 ∨ cfg.n < r.startAddress.toNat + r.registerCount.toNat) :
    process cfg x r = .exceptionFrame r.unitId 0x83#8 0x02#8 := by
  rw [process, if_neg (not_not.mpr hu), fcReadHoldingRegisters_eq, if_neg (not_not.mpr hf), bankRead, if_pos hr]
  rfl

/-- PROCESS of a read in range is the success response (R154). -/
theorem process_inRange {cfg : Config} {x : Bank} {r : RequestFrame} (hu : r.unitId = cfg.unitId)
    (hf : r.functionCode = 0x03#8) (hn : r.registerCount ≠ 0#16)
    (hr : r.startAddress.toNat + r.registerCount.toNat ≤ cfg.n) :
    process cfg x r = .responseFrame r.unitId 0x03#8 (byteCount r.registerCount)
      (memRead x r.startAddress.toNat r.registerCount.toNat) := by
  rw [process, if_neg (not_not.mpr hu), fcReadHoldingRegisters_eq, if_neg (not_not.mpr hf), bankRead_inRange x hn hr]

/-- A request frame whose operands are assembled from bytes consists of these bytes. -/
theorem requestBody_u16be (u f b2 b3 b4 b5 : Byte) :
    requestBody u f (u16be b2 b3) (u16be b4 b5) = [u, f, b2, b3, b4, b5] := by
  simp

/-- The fields that DECODE reads from the receive buffer (R84). -/
def rxRequest (s : State) : RequestFrame :=
  { unitId := cellsRead s.rxBuf 0
    functionCode := cellsRead s.rxBuf 1
    startAddress := u16be (cellsRead s.rxBuf 2) (cellsRead s.rxBuf 3)
    registerCount := u16be (cellsRead s.rxBuf 4) (cellsRead s.rxBuf 5) }

/-- The trailer received with the request (R85). -/
def rxTrailer (s : State) : Word := u16le (cellsRead s.rxBuf 6) (cellsRead s.rxBuf 7)

/-- The request's body, the six bytes the trailer covers. -/
def rxBody (s : State) : List Byte := cellsReadBurst s.rxBuf 0 6

/-- DECODE of the receive buffer: the fields, if the trailer is the CRC of the body (R130). -/
theorem decodeFrame_rxBytes (s : State) :
    decodeFrame (rxBytes s) =
      if verify (rxBody s) (rxTrailer s) then .ok (rxRequest s) else .error .crcMismatch :=
  decodeFrame_eight _ _ _ _ _ _ _ _

/-- The request fetched: RHR for function code 3, else ILLFN, with the fields DECODE reads (R87, R88). -/
theorem fetchRequest_cases (s : State) : ∃ i, fetchRequest s = .ok i ∧
    ((i = .rhr (rxRequest s).unitId (rxRequest s).startAddress (rxRequest s).registerCount (rxTrailer s) ∧
        (rxRequest s).functionCode = 0x03#8) ∨
      (i = .illfn (rxRequest s).unitId (rxRequest s).functionCode (rxRequest s).startAddress
          (rxRequest s).registerCount (rxTrailer s) ∧
        (rxRequest s).functionCode ≠ 0x03#8)) := by
  have hfetch := decodeReq8_eight (cellsRead s.rxBuf 0) (cellsRead s.rxBuf 1) (cellsRead s.rxBuf 2)
    (cellsRead s.rxBuf 3) (cellsRead s.rxBuf 4) (cellsRead s.rxBuf 5) (cellsRead s.rxBuf 6) (cellsRead s.rxBuf 7)
  by_cases hf : cellsRead s.rxBuf 1 = 0x03#8
  · exact ⟨_, hfetch.trans (if_pos hf), .inl ⟨rfl, hf⟩⟩
  · exact ⟨_, hfetch.trans (if_neg hf), .inr ⟨rfl, hf⟩⟩

/-- The body the trailer is checked against, written from the fields. -/
theorem requestBody_rxRequest (s : State) :
    requestBody (rxRequest s).unitId (rxRequest s).functionCode (rxRequest s).startAddress
      (rxRequest s).registerCount = rxBody s :=
  requestBody_u16be _ _ _ _ _ _

/-- The five ways Exec can end, in R261's order, each with its condition on the receive buffer. -/
theorem execBody_cases (s : State) :
    (verify (rxBody s) (rxTrailer s) = false ∧ execBody s = drop .dropCrcMismatch (clearRx s)) ∨
    (verify (rxBody s) (rxTrailer s) = true ∧ (rxRequest s).unitId ≠ s.cfg.unitId ∧
      execBody s = drop .dropUnitIdMismatch (clearRx s)) ∨
    (verify (rxBody s) (rxTrailer s) = true ∧ (rxRequest s).unitId = s.cfg.unitId ∧
      (rxRequest s).functionCode ≠ 0x03#8 ∧
      execBody s = report .excIllegalFunction (loadTx
        (encodeException (rxRequest s).unitId ((rxRequest s).functionCode ||| 0x80#8) 0x01#8) (clearRx s))) ∨
    (verify (rxBody s) (rxTrailer s) = true ∧ (rxRequest s).unitId = s.cfg.unitId ∧
      (rxRequest s).functionCode = 0x03#8 ∧
      ((rxRequest s).registerCount = 0#16 ∨
        s.cfg.n < (rxRequest s).startAddress.toNat + (rxRequest s).registerCount.toNat) ∧
      execBody s = report .excIllegalDataAddress (loadTx
        (encodeException (rxRequest s).unitId 0x83#8 0x02#8) (clearRx s))) ∨
    (verify (rxBody s) (rxTrailer s) = true ∧ (rxRequest s).unitId = s.cfg.unitId ∧
      (rxRequest s).functionCode = 0x03#8 ∧ (rxRequest s).registerCount ≠ 0#16 ∧
      (rxRequest s).startAddress.toNat + (rxRequest s).registerCount.toNat ≤ s.cfg.n ∧
      execBody s = report .okResponse (loadTx
        (encodeResponse (rxRequest s).unitId 0x03#8 (byteCount (rxRequest s).registerCount)
          (memRead s.bank (rxRequest s).startAddress.toNat (rxRequest s).registerCount.toNat)) (clearRx s))) := by
  unfold execBody
  rw [decodeFrame_rxBytes]
  cases hv : verify (rxBody s) (rxTrailer s) with
  | false => exact .inl ⟨rfl, rfl⟩
  | true =>
    refine .inr ?_
    simp only [if_true, true_and]
    by_cases hu : (rxRequest s).unitId = s.cfg.unitId
    · refine .inr ?_
      by_cases hf : (rxRequest s).functionCode = 0x03#8
      · refine .inr ?_
        by_cases hr : (rxRequest s).registerCount = 0#16 ∨
            s.cfg.n < (rxRequest s).startAddress.toNat + (rxRequest s).registerCount.toNat
        · rw [process_outOfRange hu hf hr]; exact .inl ⟨hu, hf, hr, rfl⟩
        · rw [not_or, Nat.not_lt] at hr
          rw [process_inRange hu hf hr.1 hr.2]; exact .inr ⟨hu, hf, hr.1, hr.2, rfl⟩
      · rw [process_otherFunction hu hf]; exact .inl ⟨hu, hf, rfl⟩
    · rw [process_otherUnit hu]; exact .inl ⟨hu, rfl⟩

/-- In EXEC the internal step answers what the spec's text of Exec computes (R223). -/
theorem internal_eq_execBody {s : State} (hp : s.phase = .exec) : internal s = .next (execBody s) := by
  obtain ⟨i, hfetch, hi⟩ := fetchRequest_cases s
  have hbody := requestBody_rxRequest s
  have hdrop := unadmittedRequestsAreDropped s _ _ _ _ _ i (hi.imp_right And.left)
  rw [hbody] at hdrop
  rw [internal, if_pos hp, hfetch]
  rcases execBody_cases s with ⟨hv, hx⟩ | ⟨hv, hu, hx⟩ | ⟨hv, hu, hf, hx⟩ | ⟨hv, hu, hf, hr, hx⟩ |
    ⟨hv, hu, hf, hn, hr, hx⟩
  · rw [hx]; exact hdrop.1 hv
  · rw [hx]; exact hdrop.2 hv hu
  · obtain ⟨-, hf'⟩ | ⟨rfl, -⟩ := hi
    · exact absurd hf' hf
    · rw [hx, encodeException_or_0x80]; exact exec_illfn_admitted (hbody ▸ hv) hu
  · obtain ⟨rfl, -⟩ | ⟨-, hf'⟩ := hi
    · rw [hx]; exact exec_rhr_outOfRange (hf ▸ hbody ▸ hv) hu hr
    · exact absurd hf hf'
  · obtain ⟨rfl, -⟩ | ⟨-, hf'⟩ := hi
    · rw [hx]; exact exec_rhr_inRange (hf ▸ hbody ▸ hv) hu hn hr
    · exact absurd hf hf'

/-- A step in EXEC at which the internal step has its time answers the spec's text of Exec. -/
theorem step_exec {s : State} (hl : s.cfg.legal = true) (hp : s.phase = .exec) (hn : nextEvent s = .internal) :
    step s = .next (execBody (consume s)) := by
  rw [step_eq_runEvent hl, hn]
  exact internal_eq_execBody (s := consume s) hp

/-- Settles O29: the step is the internal step, with or without an event that names it. -/
theorem execIsDecodeProcessEncode : Obligations.ExecIsDecodeProcessEncode := by
  intro s hl hp
  refine ⟨fun hi => ?_, fun es hi => ?_⟩
  · rw [step_internal hl hi, internal_eq_execBody hp]
  · rw [step_event hl hi]; exact internal_eq_execBody (s := { s with inputs := es }) hp

/-- A pair of bytes is the word 0 exactly when its number is 0. -/
theorem u16be_eq_zero_iff (h l : Byte) : u16be h l = 0#16 ↔ h.toNat * 256 + l.toNat = 0 := by
  rw [BitVec.toNat_eq, toNat_u16be]; rfl

/-- The outcome Exec records is the first whose condition holds (R261). -/
theorem execBody_lastOutcome (s : State) :
    (execBody s).lastOutcome =
      (if verify (rxBody s) (rxTrailer s) = false then .dropCrcMismatch
      else if (rxRequest s).unitId ≠ s.cfg.unitId then .dropUnitIdMismatch
      else if (rxRequest s).functionCode ≠ 0x03#8 then .excIllegalFunction
      else if (rxRequest s).registerCount = 0#16 ∨
          s.cfg.n < (rxRequest s).startAddress.toNat + (rxRequest s).registerCount.toNat then .excIllegalDataAddress
      else .okResponse) := by
  rcases execBody_cases s with ⟨hv, hx⟩ | ⟨hv, hu, hx⟩ | ⟨hv, hu, hf, hx⟩ | ⟨hv, hu, hf, hr, hx⟩ |
    ⟨hv, hu, hf, hn, hr, hx⟩
  · simp [hx, hv]
  · simp [hx, hv, hu]
  · simp [hx, hv, hu, hf]
  · simp [hx, hv, hu, hf, hr]
  · simp [hx, hv, hu, hf, hn, hr]

/-- Settles O15: the outcome of the spec's text of Exec, with the operands written as numbers of bytes. -/
theorem execReportsTheFirstOutcomeInOrder : Obligations.ExecReportsTheFirstOutcomeInOrder := by
  intro s hl hp hn
  refine ⟨_, step_exec hl hp hn, (execBody_lastOutcome (consume s)).trans ?_⟩
  simp only [rxBody, rxTrailer, rxRequest, consume_rxBuf, consume_cfg, u16be_eq_zero_iff, toNat_u16be]

/-- Settles O37: the two kinds of ends of Exec are the drops and the frames loaded. -/
theorem execProducesOneOutcome : Obligations.ExecProducesOneOutcome := by
  intro s hl hp hn
  have hstep : step s = internal (consume s) := by rw [step_eq_runEvent hl, show nextEvent s = .internal from hn]; rfl
  rw [hstep]
  rcases internal_cases (s := consume s) hp with ⟨o, ho, hd⟩ | ⟨P, o, hlen, hfit, ho, ha⟩
  · exact ⟨_, o, hd, rfl, rfl, rfl, rfl, .inr ⟨ho, rfl, rfl, rfl⟩⟩
  · have hF := withTrailer_length P
    exact ⟨_, o, ha, rfl, rfl, rfl, rfl, .inl ⟨ho, rfl, rfl, by simpa using hlen, by simpa using hfit⟩⟩

end Sys2Proof.Machine

/-! SUPPORT. What no rule reads never matters (R24, R25, R30): each operation takes two states that differ only in it
to two states that differ only in it, and adds the same to what they have emitted. -/

namespace Sys2Proof.Machine

/-! ### The shared operations -/

section
variable {s t : State} (h : SameButUnread s t)
include h

theorem same_emit (o : Output) : SameButUnread (emit o s) (emit o t) := { h with }

theorem same_report (o : OutcomeCode) : SameButUnread (report o s) (report o t) := { h with }

theorem same_consume : SameButUnread (consume s) (consume t) := { h with inputs := congrArg List.tail h.inputs }

/-- An emptied receive buffer has no byte left to compare. -/
theorem same_clearRx : SameButUnread (clearRx s) (clearRx t) :=
  { h with rxCnt := rfl, rxBytes := fun _ hi => absurd hi (Nat.not_lt_zero _) }

/-- With no frame waiting the transmit buffer has no byte left to compare. -/
theorem same_clearTx : SameButUnread (clearTx s) (clearTx t) :=
  { h with txLen := rfl, txIdx := rfl, txBytes := fun _ hi => absurd hi (Nat.not_lt_zero _) }

theorem same_idlePhase : idlePhase s = idlePhase t := by rw [idlePhase, idlePhase, h.stopReq]

theorem same_toIdle : SameButUnread (toIdle s) (toIdle t) := { h with phase := same_idlePhase h }

theorem same_transportOk : SameButUnread (transportOk s) (transportOk t) := { h with xfail := rfl }

theorem same_transportFailed : SameButUnread (transportFailed s) (transportFailed t) :=
  { h with
    xfail := by rw [transportFailed_xfail, transportFailed_xfail, h.xfail]
    phase := by rw [transportFailed_phase, transportFailed_phase, h.xfail, h.phase] }

theorem same_latchStop : SameButUnread (latchStop s) (latchStop t) := { h with stopReq := rfl }

theorem same_withPhase (p : Phase) : SameButUnread { s with phase := p } { t with phase := p } :=
  { h with phase := rfl }

theorem same_withBank (x : Bank) : SameButUnread { s with bank := x } { t with bank := x } :=
  { h with bank := rfl }

theorem same_drop (o : OutcomeCode) : SameButUnread (drop o s) (drop o t) := same_report (same_toIdle h) o

/-- The frame loaded is the same whatever the transmit buffers held. -/
theorem same_loadTx (hs : Memory.wf s.cfg.txMax s.txBuf = true) (ht : Memory.wf t.cfg.txMax t.txBuf = true)
    (F : List Byte) : SameButUnread (loadTx F s) (loadTx F t) :=
  { h with
    phase := rfl
    txLen := rfl
    txIdx := rfl
    txBytes := fun i hi => by
      have hs' := cellsRead_writeBurst_inside hs (a := 0) (vs := F) hi 0#8
      have ht' := cellsRead_writeBurst_inside ht (a := 0) (vs := F) hi 0#8
      rw [Nat.zero_add] at hs' ht'
      exact hs'.trans ht'.symm }

/-- A byte received is the same new byte in both, at the same place. -/
theorem same_rxByte (hs : Memory.wf 8 s.rxBuf = true) (ht : Memory.wf 8 t.rxBuf = true) (b : Byte) (p : Phase) :
    SameButUnread
      { s with rxBuf := cellsWrite s.rxBuf s.rxCnt b, rxCnt := s.rxCnt + 1, xfail := 0, phase := p }
      { t with rxBuf := cellsWrite t.rxBuf t.rxCnt b, rxCnt := t.rxCnt + 1, xfail := 0, phase := p } :=
  { h with
    phase := rfl
    rxCnt := congrArg (· + 1) h.rxCnt
    xfail := rfl
    rxBytes := fun i (hi : i < s.rxCnt + 1) => by
      show cellsRead (cellsWrite s.rxBuf s.rxCnt b) i = cellsRead (cellsWrite t.rxBuf t.rxCnt b) i
      rw [← h.rxCnt]
      by_cases heq : i = s.rxCnt
      · rw [heq, cellsRead_write_same hs, cellsRead_write_same ht]
      · rw [cellsRead_write_other _ _ heq, cellsRead_write_other _ _ heq, h.rxBytes i (by omega)] }

/-- The byte at the transmit port is one of the frame's. -/
theorem same_txData (hi : s.txIdx < s.txLen) : txData s = txData t := by
  rw [txData, txData, ← h.txIdx, h.txBytes _ hi]

/-- In EXEC all eight bytes of the receive buffer are read, and they are the same. -/
theorem same_rxBytes (h8 : s.rxCnt = 8) : Sys2Proof.Machine.rxBytes s = Sys2Proof.Machine.rxBytes t :=
  cellsReadBurst_congr fun i _ hi => h.rxBytes i (by rw [h8]; simpa using hi)

end

/-! ### Events -/

/-- `Alike s t s' t'`: after `s'` from `s` and `t'` from `t` the difference is still only in what no rule reads, and
the same has been emitted. -/
def Alike (s t s' t' : State) : Prop :=
  SameButUnread s' t' ∧ ∃ os, s'.outputs = os ++ s.outputs ∧ t'.outputs = os ++ t.outputs

/-- Alike runs have emitted the same. -/
theorem emitted_of_alike {s t s' t' : State} (h : Alike s t s' t') : emitted s s' = emitted t t' := by
  obtain ⟨-, os, hs, ht⟩ := h
  rw [emitted, emitted, hs, ht]
  simp

section
variable {s t : State} (h : SameButUnread s t)
include h

theorem alike_rxByte (hs : s.Inv) (ht : t.Inv) (b : Byte) : Alike s t (rxByte b s) (rxByte b t) := by
  by_cases hp : s.phase = .accum
  · have hc := hs.rxCnt_lt (by simp [hp])
    rw [rxByte_accum b hp hc, rxByte_accum b (h.phase ▸ hp) (h.rxCnt ▸ hc), ← h.rxCnt]
    have hsame := same_rxByte h hs.rxWf ht.rxWf b (if s.rxCnt + 1 = 8 then .exec else .accum)
    rw [← h.rxCnt] at hsame
    exact ⟨hsame, [], rfl, rfl⟩
  · rw [rxByte_of_ne_accum b hp, rxByte_of_ne_accum b (h.phase ▸ hp)]
    exact ⟨h, [], rfl, rfl⟩

theorem alike_rxTimeout : Alike s t (rxTimeout s) (rxTimeout t) := by
  by_cases hc : s.phase = .accum ∧ 0 < s.rxCnt
  · rw [rxTimeout_partial hc.1 hc.2, rxTimeout_partial (h.phase ▸ hc.1) (h.rxCnt ▸ hc.2)]
    exact ⟨same_report (same_clearRx h) _, [_], rfl, rfl⟩
  · rw [rxTimeout_of_not hc, rxTimeout_of_not (h.phase ▸ h.rxCnt ▸ hc)]
    exact ⟨h, [], rfl, rfl⟩

/-- Exec reads the eight bytes, the configuration and the bank, and these are the same. -/
theorem alike_execBody (hs : s.Inv) (ht : t.Inv) (hp : s.phase = .exec) : Alike s t (execBody s) (execBody t) := by
  have hclear := same_clearRx h
  have hload := same_loadTx hclear hs.txWf ht.txWf
  unfold execBody
  rw [same_rxBytes h (hs.rxFull.2 hp), h.cfg, h.bank]
  cases decodeFrame (rxBytes t) with
  | error err => exact ⟨same_drop hclear _, [_], rfl, rfl⟩
  | ok req =>
    dsimp only
    cases process t.cfg t.bank req with
    | silent => exact ⟨same_drop hclear _, [_], rfl, rfl⟩
    | exceptionFrame u f e => exact ⟨same_report (hload _) _, [_], rfl, rfl⟩
    | responseFrame u f b vs => exact ⟨same_report (hload _) _, [_], rfl, rfl⟩

theorem alike_xportErr : Alike s t (xportErr s) (xportErr t) := by
  by_cases ha : s.phase = .accum
  · rw [xportErr_accum ha, xportErr_accum (h.phase ▸ ha)]
    exact ⟨same_transportFailed (same_clearRx h), [_], rfl, rfl⟩
  · by_cases hr : s.phase = .respond
    · rw [xportErr_respond hr, xportErr_respond (h.phase ▸ hr)]
      exact ⟨same_transportFailed (same_toIdle (same_clearTx h)), [_], rfl, rfl⟩
    · rw [xportErr_other ha hr, xportErr_other (h.phase ▸ ha) (h.phase ▸ hr)]
      exact ⟨h, [], rfl, rfl⟩

theorem alike_shutdown : Alike s t (shutdown s) (shutdown t) := by
  by_cases hp : s.phase = .accum
  · have hstop := same_withPhase (same_latchStop h) .stopped
    rcases Nat.eq_zero_or_pos s.rxCnt with hc | hc
    · rw [shutdown_accum_empty hp hc, shutdown_accum_empty (h.phase ▸ hp) (h.rxCnt ▸ hc)]
      exact ⟨hstop, [], rfl, rfl⟩
    · rw [shutdown_accum_partial hp hc, shutdown_accum_partial (h.phase ▸ hp) (h.rxCnt ▸ hc)]
      exact ⟨same_report (same_clearRx hstop) _, [_], rfl, rfl⟩
  · rw [shutdown_of_ne_accum hp, shutdown_of_ne_accum (h.phase ▸ hp)]
    exact ⟨same_latchStop h, [], rfl, rfl⟩

/-- The local port reads the configuration and the bank only, and these are the same. -/
theorem alike_localPort {r : LocRequest} {s' : State} (hrun : localPort r s = .next s') :
    ∃ t', localPort r t = .next t' ∧ Alike s t s' t' := by
  cases hd : decodePort r with
  | error err => rw [localPort, hd] at hrun; cases hrun
  | ok i =>
    by_cases hw : i.wellFormed s.cfg = true
    · rw [localPort_presentable hd hw] at hrun
      rw [localPort_presentable hd (h.cfg ▸ hw)]
      rcases decodePort_ok_cases hd with rfl | rfl
      · rcases bankRead_cases s.cfg.n s.bank r.start r.len with ⟨hr, -⟩ | ⟨hr, -⟩
        · cases (exec_bankRead_error hr).symm.trans hrun
          exact ⟨_, exec_bankRead_error (h.cfg ▸ h.bank ▸ hr), same_emit h _, [_], rfl, rfl⟩
        · cases (exec_bankRead_ok hr).symm.trans hrun
          exact ⟨_, exec_bankRead_ok (h.cfg ▸ h.bank ▸ hr), same_emit h _, [_], rfl, rfl⟩
      · rcases bankWrite_cases s.cfg.n s.bank r.start r.wdata with ⟨hr, -⟩ | ⟨hr, -⟩
        · cases (exec_bankWrite_error hr).symm.trans hrun
          exact ⟨_, exec_bankWrite_error (h.cfg ▸ h.bank ▸ hr), same_emit h _, [_], rfl, rfl⟩
        · cases (exec_bankWrite_ok hr).symm.trans hrun
          exact ⟨_, exec_bankWrite_ok (h.cfg ▸ h.bank ▸ hr), same_emit (same_withBank h _) _, [_], rfl, rfl⟩
    · simp only [localPort, hd, hw] at hrun; cases hrun

theorem alike_txByte (hs : s.Inv) (ht : t.Inv) {s' : State} (hrun : txByte s = .next s') :
    ∃ t', txByte t = .next t' ∧ Alike s t s' t' := by
  by_cases hp : s.phase = .respond
  · have hp' : t.phase = .respond := h.phase ▸ hp
    have hdata := same_txData h (hs.txLeft hp)
    have hi' := ht.txIdx_lt hp'
    have hsent := fun last => same_transportOk (same_emit h (.tx (txData s) last))
    by_cases hlast : s.txIdx + 1 = s.txLen
    · cases (txByte_last hp (hs.txIdx_lt hp) hlast).symm.trans hrun
      refine ⟨_, txByte_last hp' hi' (h.txIdx ▸ h.txLen ▸ hlast), ?_⟩
      rw [← hdata]
      exact ⟨same_toIdle (same_clearTx (hsent true)), [_], rfl, rfl⟩
    · cases (txByte_middle hp (hs.txIdx_lt hp) hlast).symm.trans hrun
      refine ⟨_, txByte_middle hp' hi' (h.txIdx ▸ h.txLen ▸ hlast), ?_⟩
      rw [← hdata, ← h.txIdx]
      exact ⟨{ hsent false with txIdx := rfl }, [_], rfl, rfl⟩
  · cases (txByte_of_ne_respond hp).symm.trans hrun
    exact ⟨t, txByte_of_ne_respond (h.phase ▸ hp), h, [], rfl, rfl⟩

/-- After Reset only the record of outputs can differ. -/
theorem alike_resetStep : Alike s t (resetStep s) (resetStep t) := by
  refine ⟨?_, [], rfl, rfl⟩
  exact { cfg := h.cfg, bank := congrArg Config.bankInit h.cfg, phase := rfl, rxCnt := rfl, rxBytes := fun _ _ => rfl,
          txLen := rfl, txBytes := fun _ _ => rfl, txIdx := rfl, xfail := rfl, stopReq := rfl, inputs := h.inputs }

/-- What one state answers to an event, the other answers alike. -/
theorem alike_runEvent (hs : s.Inv) (ht : t.Inv) {e : Event} {s' : State} (hrun : runEvent e s = .next s') :
    ∃ t', runEvent e t = .next t' ∧ Alike s t s' t' := by
  cases e with
  | rxByte b => cases hrun; exact ⟨_, rfl, alike_rxByte h hs ht b⟩
  | rxTimeout => cases hrun; exact ⟨_, rfl, alike_rxTimeout h⟩
  | internal =>
    by_cases hp : s.phase = .exec
    · cases (internal_eq_execBody hp).symm.trans hrun
      exact ⟨_, internal_eq_execBody (h.phase ▸ hp), alike_execBody h hs ht hp⟩
    · cases (internal_idle hp).symm.trans hrun
      exact ⟨t, internal_idle (h.phase ▸ hp), h, [], rfl, rfl⟩
  | txReady => exact alike_txByte h hs ht hrun
  | xportErr => cases hrun; exact ⟨_, rfl, alike_xportErr h⟩
  | shutdown => cases hrun; exact ⟨_, rfl, alike_shutdown h⟩
  | loc r => exact alike_localPort h hrun
  | reset => cases hrun; exact ⟨_, rfl, alike_resetStep h⟩

end

/-- Settles O50: both states take the same event, and what the one answers the other answers alike. -/
theorem unreadStateNeverMatters : Obligations.UnreadStateNeverMatters := by
  intro s t s' hs ht h hstep
  have hrun := (runEvent_of_step hstep).2
  obtain ⟨t', hrun', halike⟩ :=
    alike_runEvent (same_consume h) (inv_withInputs hs _) (inv_withInputs ht _) hrun
  refine ⟨t', ?_, halike.1, emitted_of_alike (s := s) (t := t) halike⟩
  rw [step_eq_runEvent ht.cfgLegal, nextEvent, ← h.inputs]
  exact hrun'

end Sys2Proof.Machine

/-! SUPPORT. The laws of the CRC (R112, R115, R117): the table-driven form, the residue and single-bit errors, from
the linearity of the shift and from its sending only zero to zero. -/

namespace Sys2Proof.Machine

/-! ### The register over one byte and over a trailer -/

theorem crcShifts_zero (k : Nat) : crcShifts k 0#16 = 0#16 := by
  rw [crcShifts_low_zero (fun i _ => by simp)]; simp

/-- The shifts send exactly zero to zero. -/
theorem crcShifts_eq_zero_iff (k : Nat) (c : Word) : crcShifts k c = 0#16 ↔ c = 0#16 :=
  ⟨crcShifts_eq_zero, fun h => by rw [h, crcShifts_zero]⟩

/-- A byte is eight shifts of itself placed in the high half. -/
theorem crcShifts_eight_high (b : Byte) : crcShifts 8 (b.setWidth 16 <<< 8) = b.setWidth 16 := by
  rw [crcShifts_low_zero (fun i hi => by simp [hi])]
  apply BitVec.eq_of_getLsbD_eq
  intro i hi
  have hlow : b.getLsbD i = true → i < 8 := BitVec.lt_of_getLsbD
  simp only [BitVec.getLsbD_ushiftRight, BitVec.getLsbD_shiftLeft, BitVec.getLsbD_setWidth]
  cases hb : b.getLsbD i with
  | false => simp [hb]
  | true => simp [hb, show 8 + i < 16 by have := hlow hb; omega, hi]

/-- A word is its low byte and its high byte side by side. -/
theorem lo8_xor_hi8 (c : Word) : (lo8 c).setWidth 16 ^^^ (hi8 c).setWidth 16 <<< 8 = c := by
  apply BitVec.eq_of_getLsbD_eq
  intro i hi
  simp only [lo8, hi8, BitVec.getLsbD_xor, BitVec.getLsbD_shiftLeft, BitVec.getLsbD_setWidth,
    BitVec.getLsbD_extractLsb']
  by_cases h : i < 8
  · simp [h, hi]
  · simp [h, hi, show i - 8 < 16 by omega, show i - 8 < 8 by omega, show 8 + (i - 8) = i by omega]

/-- Two bytes of input are one word XORed into the register, then sixteen shifts. -/
theorem foldl_crcByte_word (r c : Word) : [lo8 c, hi8 c].foldl crcByte r = crcShifts 16 (r ^^^ c) := by
  calc [lo8 c, hi8 c].foldl crcByte r
      = crcShifts 8 (crcShifts 8 (r ^^^ (lo8 c).setWidth 16) ^^^ (hi8 c).setWidth 16) := rfl
    _ = crcShifts 8 (crcShifts 8 ((r ^^^ (lo8 c).setWidth 16) ^^^ (hi8 c).setWidth 16 <<< 8)) := by
      rw [crcShifts_xor 8 _ ((hi8 c).setWidth 16 <<< 8), crcShifts_eight_high]
    _ = crcShifts 16 (r ^^^ c) := by
      rw [← crcShifts_add, BitVec.xor_assoc, lo8_xor_hi8]

/-- The whole has residue zero exactly when the trailer is the CRC of the rest. -/
theorem crc16_append_trailer_eq_zero_iff (P : List Byte) (c : Word) :
    crc16 (P ++ [lo8 c, hi8 c]) = 0#16 ↔ crc16 P = c := by
  rw [crc16_append, foldl_crcByte_word, crcShifts_eq_zero_iff, BitVec.xor_eq_zero_iff]

/-- Settles O2: both halves are the residue law, the first with the sequence's own trailer. -/
theorem crcResidueLaw : Obligations.CrcResidueLaw :=
  ⟨fun P => (crc16_append_trailer_eq_zero_iff P _).2 rfl,
    fun P c => (verify_iff P c).trans (crc16_append_trailer_eq_zero_iff P c).symm⟩

/-! ### Single-bit errors -/

/-- A change of one byte of input is a change of the register after it, shifted eight times. -/
theorem crcByte_xor (c : Word) (x d : Byte) :
    crcByte c (x ^^^ d) = crcByte c x ^^^ crcShifts 8 (d.setWidth 16) := by
  rw [crcByte, crcByte, ← crcShifts_xor, BitVec.setWidth_xor, BitVec.xor_assoc]

/-- A change of one byte of a sequence changes its CRC by the shifted change. -/
theorem crc16_change (P Q : List Byte) (x d : Byte) :
    crc16 (P ++ [x ^^^ d] ++ Q) =
      crc16 (P ++ [x] ++ Q) ^^^ crcShifts (8 + 8 * Q.length) (d.setWidth 16) := by
  have hone : ∀ y, crc16 (P ++ [y] ++ Q) = Q.foldl crcByte (crcByte (crc16 P) y) := fun y => by
    rw [crc16_append, crc16_append]; rfl
  rw [hone, hone, crcByte_xor, crc_foldl_xor, crcShifts_add]

/-- A word changed is another word. -/
theorem ne_xor_of_ne_zero {w : Nat} {a d : BitVec w} (h : d ≠ 0#w) : a ≠ a ^^^ d := by
  intro heq
  have hd := congrArg (a ^^^ ·) heq
  simp only [← BitVec.xor_assoc, BitVec.xor_self, BitVec.zero_xor] at hd
  exact h hd.symm

/-- A single bit of a word is not zero, nor is it after widening. -/
theorem setWidth_bit_ne_zero {w v k : Nat} (hw : k < w) (hv : k < v) : (1#w <<< k).setWidth v ≠ 0#v := by
  intro h
  have hbit := congrArg (fun x => x.getLsbD k) h
  simp [hw, hv] at hbit

/-- Settles O3: the change of the CRC is a shifted single bit, which is not zero. -/
theorem crcDetectsEverySingleBitFlip : Obligations.CrcDetectsEverySingleBitFlip := by
  refine ⟨fun b => (verify_iff b _).2 rfl, fun P Q x k hk => ?_, fun b k hk => ?_⟩
  · rw [verify_eq_false_iff, crc16_change]
    exact (ne_xor_of_ne_zero fun h => setWidth_bit_ne_zero hk (by omega) (crcShifts_eq_zero h)).symm
  · rw [verify_eq_false_iff]
    have hbit := setWidth_bit_ne_zero hk hk
    rw [BitVec.setWidth_eq] at hbit
    exact ne_xor_of_ne_zero hbit

/-! ### The table-driven form -/

/-- The printed table is the eight shifts of every byte, in order (R112). -/
theorem crcTable_eq : crcTable = (List.range 256).map (fun i => crcShifts 8 (BitVec.ofNat 16 i)) := by
  decide +kernel

theorem crcTable_getD {i : Nat} (hi : i < 256) : crcTable.getD i 0#16 = crcShifts 8 (BitVec.ofNat 16 i) := by
  rw [crcTable_eq]
  simp [hi]

/-- The table's index is the low byte of the register (R112). -/
theorem and_0xFF (x : Word) : x &&& 0xFF#16 = (lo8 x).setWidth 16 := by
  have hmask : ∀ i, i < 16 → (0xFF#16).getLsbD i = decide (i < 8) := by decide
  apply BitVec.eq_of_getLsbD_eq
  intro i hi
  rw [BitVec.getLsbD_and, hmask i hi, BitVec.getLsbD_setWidth, lo8, BitVec.getLsbD_extractLsb']
  simp [hi, Bool.and_comm]

/-- A byte of input does not reach the high half of the register. -/
theorem setWidth_hi8_xor (c : Word) (b : Byte) : (hi8 (c ^^^ b.setWidth 16)).setWidth 16 = c >>> 8 := by
  apply BitVec.eq_of_getLsbD_eq
  intro i hi
  have hb : b.getLsbD (8 + i) = false := BitVec.getLsbD_of_ge b _ (by omega)
  have hc : 8 ≤ i → c.getLsbD (8 + i) = false := fun h => BitVec.getLsbD_of_ge c _ (by omega)
  rw [BitVec.getLsbD_setWidth, hi8, BitVec.getLsbD_extractLsb', BitVec.getLsbD_ushiftRight, BitVec.getLsbD_xor,
    BitVec.getLsbD_setWidth, hb]
  by_cases h : i < 8
  · simp [hi, h]
  · simp [h, hc (by omega)]

/-- One byte of the table-driven form is one byte of the bit-serial form: the shifts split over the low half, which
is looked up, and the high half, which is only moved down. -/
theorem crcTableByte_eq (c : Word) (b : Byte) : crcTableByte c b = crcByte c b := by
  have hlt : ((lo8 (c ^^^ b.setWidth 16)).setWidth 16).toNat < 256 := by
    rw [BitVec.toNat_setWidth_of_le (by decide)]
    exact (lo8 _).isLt
  calc crcTableByte c b
      = c >>> 8 ^^^ crcShifts 8 ((lo8 (c ^^^ b.setWidth 16)).setWidth 16) := by
        rw [crcTableByte, and_0xFF, crcTable_getD hlt, BitVec.ofNat_toNat, BitVec.setWidth_eq]
    _ = crcShifts 8 ((lo8 (c ^^^ b.setWidth 16)).setWidth 16) ^^^
          crcShifts 8 ((hi8 (c ^^^ b.setWidth 16)).setWidth 16 <<< 8) := by
        rw [crcShifts_eight_high, setWidth_hi8_xor, BitVec.xor_comm]
    _ = crcByte c b := by rw [← crcShifts_xor, lo8_xor_hi8, crcByte]

/-- Settles O1: the table is the eight shifts, and byte for byte the two forms are the same. -/
theorem crcTableFormAgreesWithBitSerial : Obligations.CrcTableFormAgreesWithBitSerial := by
  refine ⟨fun i hi => crcTable_getD hi, fun B => ?_⟩
  have hbyte : crcTableByte = crcByte := funext fun c => funext fun b => crcTableByte_eq c b
  rw [crc16Table, crc16, hbyte]

end Sys2Proof.Machine

/-! SUPPORT. Encodings (spec/30_encoding.md, spec/41_frame_decode.md, spec/43_frame_encode.md): requests and output
frames are read back by position, and DECODE checks the length and then the trailer. -/

namespace Sys2Proof.Machine

/-! ### The bytes of an output frame -/

/-- The values of a response and its trailer are recovered by position, whatever they are (R176). -/
theorem splitResponse_append (vs : List Word) (c : Word) :
    splitResponse (vs.flatMap be2 ++ le2 c) = some (vs, c) := by
  induction vs with
  | nil => simp [le2, splitResponse]
  | cons v vs ih =>
    have hcons : (v :: vs).flatMap be2 ++ le2 c = hi8 v :: lo8 v :: (vs.flatMap be2 ++ le2 c) := rfl
    rw [hcons, splitResponse, ih]
    · simp
    · simp [le2]

/-- The `k`-th value's two bytes, high byte first. -/
theorem flatMap_be2_getD (vs : List Word) (Q : List Byte) {k : Nat} (hk : k < vs.length) :
    (vs.flatMap be2 ++ Q).getD (2 * k) 0#8 = hi8 (vs.getD k 0#16) ∧
      (vs.flatMap be2 ++ Q).getD (2 * k + 1) 0#8 = lo8 (vs.getD k 0#16) := by
  induction vs generalizing k with
  | nil => simp at hk
  | cons v vs ih =>
    have hcons : (v :: vs).flatMap be2 ++ Q = hi8 v :: lo8 v :: (vs.flatMap be2 ++ Q) := rfl
    rw [hcons]
    cases k with
    | zero => exact ⟨rfl, rfl⟩
    | succ k =>
      obtain ⟨hhi, hlo⟩ := ih (k := k) (by simpa using hk)
      exact ⟨hhi, hlo⟩

/-- A success response as bytes: three fields, then the values, then the trailer (R82). -/
theorem encodeResponse_eq (u f b : Byte) (vs : List Word) :
    encodeResponse u f b vs = u :: f :: b :: (vs.flatMap be2 ++ le2 (crc16 (responseBody u f b vs))) := by
  simp [encodeResponse, withTrailer, responseBody]

/-- An exception response as bytes (R83). -/
theorem encodeException_eq (u f e : Byte) :
    encodeException u f e = [u, f ||| 0x80#8, e] ++ le2 (crc16 [u, f ||| 0x80#8, e]) :=
  rfl

/-- Settles O9: the fields are the first three bytes, the values follow in pairs, and recovering them by position
shows that equal frames have equal fields. -/
theorem encodedFieldsStandAtTheirPositions : Obligations.EncodedFieldsStandAtTheirPositions := by
  refine ⟨fun u f b vs hb => ?_, fun u f e => ⟨rfl, rfl, rfl⟩, fun u f b u' f' b' vs vs' _ _ heq => ?_,
    fun u f e u' f' e' heq => ?_⟩
  · rw [encodeResponse_eq]
    refine ⟨rfl, rfl, rfl, fun k hk => ?_⟩
    obtain ⟨hhi, hlo⟩ := flatMap_be2_getD vs (le2 (crc16 (responseBody u f b vs))) (k := k) (by omega)
    rw [show 3 + 2 * k = 2 * k + 3 by omega, show 4 + 2 * k = (2 * k + 1) + 3 by omega]
    simp only [List.getD_cons_succ, hhi, hlo, u16be_hi_lo]
  · rw [encodeResponse_eq, encodeResponse_eq] at heq
    simp only [List.cons.injEq] at heq
    obtain ⟨hu, hf, hb, htail⟩ := heq
    have hsplit := congrArg splitResponse htail
    rw [splitResponse_append, splitResponse_append] at hsplit
    exact ⟨hu, hf, hb, congrArg Prod.fst (Option.some.inj hsplit)⟩
  · rw [encodeException_eq, encodeException_eq] at heq
    simp only [List.cons_append, List.cons.injEq] at heq
    exact ⟨heq.1, heq.2.1, heq.2.2.1⟩

/-! ### Decoding what was encoded -/

/-- An output frame of function byte 3 is a success response when its byte count fits its values (R82). -/
theorem decodeOutput_response (u : Byte) {x : Byte} {rest : List Byte} {vs : List Word} {c : Word}
    (hsplit : splitResponse rest = some (vs, c)) (hx : x.toNat = 2 * vs.length) :
    decodeOutput (u :: 0x03#8 :: x :: rest) = .ok (.respRhr u x vs c) := by
  simp [decodeOutput, hsplit, hx]

/-- Settles O4: each of the six words, decoded. -/
theorem wordsOfTheSpecDecode : Obligations.WordsOfTheSpecDecode :=
  ⟨rfl, rfl, by decide, rfl, rfl, rfl⟩

/-- Settles O5: a request's operands are put together from the bytes they were split into; an output frame is
recovered by position; a local-port request carries its operands as they are. -/
theorem decodeOfEncodeIsIdentity : Obligations.DecodeOfEncodeIsIdentity := by
  intro cfg i _ hw
  cases i with
  | rhr u a n c =>
    refine (decodeReq8_eight _ _ _ _ _ _ _ _).trans ((if_pos rfl).trans ?_)
    rw [u16be_hi_lo, u16be_hi_lo, u16le_lo_hi]
  | illfn u f a n c =>
    have hf : f ≠ 0x03#8 := by
      simp only [Instr.wellFormed, Bool.and_eq_true, bne_iff_ne] at hw
      exact hw.1
    refine (decodeReq8_eight _ _ _ _ _ _ _ _).trans ((if_neg hf).trans ?_)
    rw [u16be_hi_lo, u16be_hi_lo, u16le_lo_hi]
  | respRhr u b vs c =>
    have hb : b.toNat = 2 * vs.length := by
      simp only [Instr.wellFormed, Bool.and_eq_true, decide_eq_true_eq] at hw
      exact hw.1.2
    exact decodeOutput_response u (splitResponse_append vs c) hb
  | respExc u f e c =>
    have hf : f.getLsbD 7 = true := by
      simp only [Instr.wellFormed, Bool.and_eq_true] at hw
      exact hw.1.1
    show decodeOutput [u, f, e, lo8 c, hi8 c] = _
    rw [decodeOutput, if_pos hf, u16le_lo_hi]
  | bankRead start count => rfl
  | bankWrite start values =>
    have hlen : values.length < 65536 := by
      simp only [Instr.wellFormed, Bool.and_eq_true, decide_eq_true_eq] at hw
      omega
    have hcount : values.length = (BitVec.ofNat 16 values.length).toNat := by
      rw [BitVec.toNat_ofNat, Nat.mod_eq_of_lt hlen]
    simp only [encode, decode, decodePort, if_true]
    exact if_pos hcount

/-- Settles O6: the operands are the byte pairs, and splitting them gives the bytes back. -/
theorem everyEightBytesAreOneRequest : Obligations.EveryEightBytesAreOneRequest := by
  intro b0 b1 b2 b3 b4 b5 b6 b7
  refine ⟨u16be b2 b3, u16be b4 b5, u16le b6 b7, _, toNat_u16be _ _, toNat_u16be _ _, toNat_u16be _ _, rfl, ?_, ?_⟩
  · rw [decodeReq8_eight]
    split_ifs <;> rfl
  · by_cases hf : b1 = 0x03#8
    · rw [if_pos hf]; simp [encode, le2, hf]
    · rw [if_neg hf]; simp [encode, le2]

/-! ### DECODE -/

/-- The body and the two trailer bytes of a sequence, by position. -/
theorem trailer_positions (P : List Byte) (l h : Byte) :
    (P ++ [l, h]).take ((P ++ [l, h]).length - 2) = P ∧
      (P ++ [l, h]).getD ((P ++ [l, h]).length - 2) 0#8 = l ∧
      (P ++ [l, h]).getD ((P ++ [l, h]).length - 1) 0#8 = h := by
  have hlen : (P ++ [l, h]).length = P.length + 2 := by simp
  rw [hlen]
  refine ⟨by simp, ?_, ?_⟩
  · rw [Nat.add_sub_cancel, List.getD_append_right _ _ _ _ (le_refl _)]; simp
  · rw [show P.length + 2 - 1 = P.length + 1 from rfl, List.getD_append_right _ _ _ _ (by omega)]; simp

/-- DECODE of a body of at least six bytes with a trailer (R131, R133, R135). -/
theorem decodeFrame_append {P : List Byte} (c : Word) (hP : 6 ≤ P.length) :
    decodeFrame (P ++ [lo8 c, hi8 c]) =
      if verify P c then
        .ok { unitId := (P ++ [lo8 c, hi8 c]).getD 0 0#8
              functionCode := (P ++ [lo8 c, hi8 c]).getD 1 0#8
              startAddress := u16be ((P ++ [lo8 c, hi8 c]).getD 2 0#8) ((P ++ [lo8 c, hi8 c]).getD 3 0#8)
              registerCount := u16be ((P ++ [lo8 c, hi8 c]).getD 4 0#8) ((P ++ [lo8 c, hi8 c]).getD 5 0#8) }
      else .error .crcMismatch := by
  obtain ⟨hbody, hlo, hhi⟩ := trailer_positions P (lo8 c) (hi8 c)
  have hlen : ¬ (P ++ [lo8 c, hi8 c]).length < Config.minFrame := by simp; omega
  rw [decodeFrame, if_neg hlen, hbody, hlo, hhi, u16le_lo_hi]

/-- Settles O7: the length, then the trailer, then the four fields. -/
theorem decodeChecksLengthThenCrc : Obligations.DecodeChecksLengthThenCrc := by
  refine ⟨fun B hB => if_pos hB, fun body c hlen hc => ?_, fun u f a n mid => ?_⟩
  · rw [decodeFrame_append c hlen, (verify_eq_false_iff body c).2 hc]; rfl
  · have hv := (verify_iff (requestBody u f a n ++ mid) _).2 rfl
    rw [withTrailer, le2, decodeFrame_append _ (by simp), if_pos hv]
    simp

/-- Settles O8: both encoders append the CRC of a body of at least three bytes. -/
theorem encodedFramesValidate : Obligations.EncodedFramesValidate := by
  intro F hF
  obtain ⟨P, hP, rfl⟩ : ∃ P, 3 ≤ P.length ∧ F = withTrailer P := by
    rcases hF with ⟨u, f, b, vs, rfl⟩ | ⟨u, f, e, rfl⟩
    · exact ⟨_, by simp, rfl⟩
    · exact ⟨_, by simp [exceptionBody], rfl⟩
  obtain ⟨hbody, hlo, hhi⟩ := trailer_positions P (lo8 (crc16 P)) (hi8 (crc16 P))
  refine ⟨by simpa using hP, ?_, crcResidueLaw.1 P⟩
  rw [withTrailer, le2, hbody, hlo, hhi, u16le_lo_hi]
  exact (verify_iff P _).2 rfl

end Sys2Proof.Machine

/-! SUPPORT. The beat-level guard (R203): each beat against the burst it belongs to, which the atomic view places
whole at its grant. -/

namespace Sys2Proof.Machine

/-- While the guard is free no burst has beats left. -/
theorem GuardState.Inv.idle {g : GuardState} (h : g.Inv) (hf : g.owner = .free) :
    g.reqLeft = 0 ∧ g.locLeft = [] ∧ g.locReadLeft = 0 := by
  have hreq : ¬ g.owner = .req := by rw [hf]; decide
  have hloc : ¬ g.owner = .loc := by rw [hf]; decide
  rw [h.loc, not_or, not_not, not_not] at hloc
  rw [h.req, not_not] at hreq
  exact ⟨hreq, hloc⟩

/-- A burst of no beats changes nothing. -/
theorem memWrite_nil (x : Bank) (a : Nat) : memWrite x a [] = x := rfl

/-- A burst of no beats reads nothing. -/
theorem memRead_zero (x : Bank) (a : Nat) : memRead x a 0 = [] := rfl

/-- While the guard is free the atomic view is the guard's own fields. -/
theorem GuardState.Inv.atomic_of_free {g : GuardState} (h : g.Inv) (hf : g.owner = .free) :
    g.atomicBank = g.x ∧ g.atomicRead = g.reqGot ∧ g.atomicLocRead = g.locGot := by
  obtain ⟨hreq, hloc, hlocRead⟩ := h.idle hf
  rw [GuardState.atomicBank, GuardState.atomicRead, GuardState.atomicLocRead, hreq, hloc, hlocRead]
  exact ⟨memWrite_nil _ _, List.append_nil _, List.append_nil _⟩

/-- Reading on by one beat: the value just read, then the rest of the burst. -/
theorem memRead_beat (got : List Word) (x : Bank) (a : Nat) {n : Nat} (hn : n ≠ 0) :
    got ++ [cellsRead x a] ++ memRead x (a + 1) (n - 1) = got ++ memRead x a n := by
  obtain ⟨k, rfl⟩ := Nat.exists_eq_succ_of_ne_zero hn
  rw [List.append_assoc]; rfl

/-- After a beat the owner keeps the guard exactly when its burst has beats left (R203 (c)). -/
theorem owner_kept_iff {o : GuardOwner} (ho : o ≠ .free) (n : Nat) :
    (if n ≤ 1 then .free else o) = o ↔ n - 1 ≠ 0 := by
  by_cases hlast : n ≤ 1
  · rw [if_pos hlast]
    exact iff_of_false ho.symm (by omega)
  · rw [if_neg hlast]
    exact iff_of_true rfl (by omega)

/-- A granted read burst of REQ: its snapshot is taken at the grant. -/
theorem grantReq_free {g : GuardState} (h : g.Inv) (hf : g.owner = .free) (start count : Nat) :
    (guardBeat (.grantReq start count) g).Inv ∧
    (guardBeat (.grantReq start count) g).atomicBank = g.atomicBank ∧
    (guardBeat (.grantReq start count) g).atomicRead = memRead g.atomicBank start count ∧
    (guardBeat (.grantReq start count) g).atomicLocRead = g.atomicLocRead := by
  obtain ⟨-, hloc, hlocRead⟩ := h.idle hf
  rw [(h.atomic_of_free hf).1, guardBeat, if_pos hf]
  refine ⟨⟨?_, ?_, h.oneKind⟩, (h.atomic_of_free hf).1, rfl, rfl⟩
  · by_cases hc : count = 0 <;> simp [hc]
  · by_cases hc : count = 0 <;> simp [hc, hloc, hlocRead]

/-- A granted write burst: in the atomic view it is stored whole at the grant. -/
theorem grantLoc_free {g : GuardState} (h : g.Inv) (hf : g.owner = .free) (start : Nat) (vs : List Word) :
    (guardBeat (.grantLoc start vs) g).Inv ∧
    (guardBeat (.grantLoc start vs) g).atomicBank = memWrite g.atomicBank start vs ∧
    (guardBeat (.grantLoc start vs) g).atomicRead = g.atomicRead ∧
    (guardBeat (.grantLoc start vs) g).atomicLocRead = g.atomicLocRead := by
  obtain ⟨hreq, -, hlocRead⟩ := h.idle hf
  rw [(h.atomic_of_free hf).1, guardBeat, if_pos hf]
  refine ⟨⟨?_, ?_, .inr hlocRead⟩, rfl, rfl, ?_⟩
  · cases vs <;> simp [hreq]
  · cases vs <;> simp [hlocRead]
  · rw [GuardState.atomicLocRead, GuardState.atomicLocRead, hlocRead, memRead_zero, memRead_zero]

/-- A granted read burst of LOC: its snapshot is taken at the grant. -/
theorem grantLocRead_free {g : GuardState} (h : g.Inv) (hf : g.owner = .free) (start count : Nat) :
    (guardBeat (.grantLocRead start count) g).Inv ∧
    (guardBeat (.grantLocRead start count) g).atomicBank = g.atomicBank ∧
    (guardBeat (.grantLocRead start count) g).atomicRead = g.atomicRead ∧
    (guardBeat (.grantLocRead start count) g).atomicLocRead = memRead g.atomicBank start count := by
  obtain ⟨hreq, hloc, -⟩ := h.idle hf
  rw [(h.atomic_of_free hf).1, guardBeat, if_pos hf]
  refine ⟨⟨?_, ?_, .inl hloc⟩, ?_, rfl, rfl⟩
  · by_cases hc : count = 0 <;> simp [hc, hreq]
  · by_cases hc : count = 0 <;> simp [hc, hloc]
  · rw [GuardState.atomicBank, hloc, memWrite_nil]

/-- A beat of REQ's burst reads one register of its snapshot. -/
theorem beatReq_owner {g : GuardState} (h : g.Inv) (ho : g.owner = .req) :
    (guardBeat .beatReq g).Inv ∧ (guardBeat .beatReq g).atomicBank = g.atomicBank ∧
    (guardBeat .beatReq g).atomicRead = g.atomicRead ∧
    (guardBeat .beatReq g).atomicLocRead = g.atomicLocRead := by
  have hreq : g.reqLeft ≠ 0 := h.req.1 ho
  have hloc : ¬ (g.locLeft ≠ [] ∨ g.locReadLeft ≠ 0) := by rw [← h.loc, ho]; decide
  rw [guardBeat, if_pos ho]
  refine ⟨⟨owner_kept_iff (by decide) _, iff_of_false ?_ hloc, h.oneKind⟩, rfl, memRead_beat _ _ _ hreq, rfl⟩
  by_cases hlast : g.reqLeft ≤ 1 <;> simp [hlast]

/-- A beat of LOC's read burst reads one register of its snapshot. -/
theorem beatLoc_read {g : GuardState} (h : g.Inv) (ho : g.owner = .loc) (hl : g.locLeft = []) :
    (guardBeat .beatLoc g).Inv ∧ (guardBeat .beatLoc g).atomicBank = g.atomicBank ∧
    (guardBeat .beatLoc g).atomicRead = g.atomicRead ∧
    (guardBeat .beatLoc g).atomicLocRead = g.atomicLocRead := by
  have hread : g.locReadLeft ≠ 0 := (h.loc.1 ho).resolve_left (not_not.mpr hl)
  have hreq : ¬ g.reqLeft ≠ 0 := by rw [← h.req, ho]; decide
  simp only [guardBeat, if_pos ho, hl]
  refine ⟨⟨iff_of_false ?_ hreq, ?_, .inl rfl⟩, ?_, rfl, memRead_beat _ _ _ hread⟩
  · by_cases hlast : g.locReadLeft ≤ 1 <;> simp [hlast]
  · exact (owner_kept_iff (by decide) _).trans (or_iff_right (by simp)).symm
  · rw [GuardState.atomicBank, GuardState.atomicBank, hl, memWrite_nil, memWrite_nil]

/-- A beat of a write burst stores one value; in the atomic view it has been there since the grant. -/
theorem beatLoc_write {g : GuardState} (h : g.Inv) (ho : g.owner = .loc) {v : Word} {vs : List Word}
    (hl : g.locLeft = v :: vs) :
    (guardBeat .beatLoc g).Inv ∧ (guardBeat .beatLoc g).atomicBank = g.atomicBank ∧
    (guardBeat .beatLoc g).atomicRead = g.atomicRead ∧
    (guardBeat .beatLoc g).atomicLocRead = g.atomicLocRead := by
  have hread : g.locReadLeft = 0 := h.oneKind.resolve_left (by simp [hl])
  have hreq : g.reqLeft = 0 := not_not.1 fun hne => by simp [h.req.2 hne] at ho
  simp only [guardBeat, if_pos ho, hl]
  refine ⟨⟨?_, ?_, .inr hread⟩, ?_, ?_, ?_⟩
  · cases vs <;> simp [hreq]
  · cases vs <;> simp [hread]
  · rw [GuardState.atomicBank, GuardState.atomicBank, hl]; rfl
  · rw [GuardState.atomicRead, GuardState.atomicRead, hreq, memRead_zero, memRead_zero]
  · rw [GuardState.atomicLocRead, GuardState.atomicLocRead, hread, memRead_zero, memRead_zero]

/-- Settles O27: a grant to a free guard, a beat of the owner, and every other beat, which does nothing. -/
theorem beatLevelGuardRefinesAtomicOperations : Obligations.BeatLevelGuardRefinesAtomicOperations := by
  refine ⟨fun x => ⟨by simp [GuardState.boot], by simp [GuardState.boot], .inl rfl⟩, fun g b h => ?_⟩
  have hfree : g.owner = .free → g.x = g.atomicBank ∧ g.reqGot = g.atomicRead ∧ g.locGot = g.atomicLocRead :=
    fun hf => by
      obtain ⟨hx, hr, hl⟩ := h.atomic_of_free hf
      exact ⟨hx.symm, hr.symm, hl.symm⟩
  cases b with
  | grantReq start count =>
    by_cases hf : g.owner = .free
    · obtain ⟨hinv, hx, hr, hl⟩ := grantReq_free h hf start count
      exact ⟨hinv, hx, hr.trans (if_pos hf).symm, hl, hfree⟩
    · have hsame : guardBeat (.grantReq start count) g = g := if_neg hf
      rw [hsame]; exact ⟨h, rfl, (if_neg hf).symm, rfl, hfree⟩
  | grantLoc start vs =>
    by_cases hf : g.owner = .free
    · obtain ⟨hinv, hx, hr, hl⟩ := grantLoc_free h hf start vs
      exact ⟨hinv, hx.trans (if_pos hf).symm, hr, hl, hfree⟩
    · have hsame : guardBeat (.grantLoc start vs) g = g := if_neg hf
      rw [hsame]; exact ⟨h, (if_neg hf).symm, rfl, rfl, hfree⟩
  | grantLocRead start count =>
    by_cases hf : g.owner = .free
    · obtain ⟨hinv, hx, hr, hl⟩ := grantLocRead_free h hf start count
      exact ⟨hinv, hx, hr, hl.trans (if_pos hf).symm, hfree⟩
    · have hsame : guardBeat (.grantLocRead start count) g = g := if_neg hf
      rw [hsame]; exact ⟨h, rfl, rfl, (if_neg hf).symm, hfree⟩
  | beatReq =>
    by_cases ho : g.owner = .req
    · obtain ⟨hinv, hx, hr, hl⟩ := beatReq_owner h ho
      exact ⟨hinv, hx, hr, hl, hfree⟩
    · have hsame : guardBeat .beatReq g = g := if_neg ho
      rw [hsame]; exact ⟨h, rfl, rfl, rfl, hfree⟩
  | beatLoc =>
    by_cases ho : g.owner = .loc
    · cases hl : g.locLeft with
      | nil =>
        obtain ⟨hinv, hx, hr, hl⟩ := beatLoc_read h ho hl
        exact ⟨hinv, hx, hr, hl, hfree⟩
      | cons v vs =>
        obtain ⟨hinv, hx, hr, hl⟩ := beatLoc_write h ho hl
        exact ⟨hinv, hx, hr, hl, hfree⟩
    · have hsame : guardBeat .beatLoc g = g := if_neg ho
      rw [hsame]; exact ⟨h, rfl, rfl, rfl, hfree⟩

end Sys2Proof.Machine

/-! SUPPORT. The local port's requests as events (R94, R206), alone and in a race with a request on the wire (R66,
R200). -/

namespace Sys2Proof.Machine

/-- A write request of at most 65535 values is the instruction it was made from (R94). -/
theorem decodePort_writeRequest {start : Word} {values : List Int} (h : values.length ≤ 65535) :
    decodePort (writeRequest start values) = .ok (.bankWrite start values) := by
  have hcount : values.length = (BitVec.ofNat 16 values.length).toNat := by
    rw [BitVec.toNat_ofNat, Nat.mod_eq_of_lt (by omega)]
  simp only [decodePort, writeRequest, if_true]
  exact if_pos hcount

/-- A well-formed local write has at most 65535 values (R194). -/
theorem length_le_of_wellFormed {cfg : Config} {start : Word} {values : List Int}
    (hw : (Instr.bankWrite start values).wellFormed cfg = true) : values.length ≤ 65535 := by
  simp only [Instr.wellFormed, Bool.and_eq_true, decide_eq_true_eq] at hw
  exact hw.1

/-- A step at a presentable write request is the write. -/
theorem step_writeRequest {s : State} {start : Word} {values : List Int} {es : List Event}
    (hl : s.cfg.legal = true) (hi : s.inputs = .loc (writeRequest start values) :: es)
    (hw : (Instr.bankWrite start values).wellFormed s.cfg = true) :
    step s = exec (.bankWrite start values) { s with inputs := es } :=
  step_loc hl hi (decodePort_writeRequest (length_le_of_wellFormed hw)) hw

/-- Settles O26: the request is the write of eleven values at register 0, which is in range or not. -/
theorem refreshWritesElevenRegisters : Obligations.RefreshWritesElevenRegisters := by
  refine ⟨rfl, fun s f es hl hbank hv hi => ?_⟩
  have hlen : f.values.length = 11 := rfl
  have hw : (Instr.bankWrite 0#16 f.values).wellFormed s.cfg = true := by
    simp only [Instr.wellFormed, hlen, Bool.and_eq_true, List.all_eq_true]
    exact ⟨rfl, hv⟩
  rw [step_writeRequest hl hi hw]
  obtain ⟨hbeyond, hinside⟩ := bankWriteStoresClippedValues { s with inputs := es } 0#16 f.values hbank
  simp only [hlen, BitVec.toNat_zero, Nat.zero_add] at hbeyond hinside
  by_cases hn : 11 ≤ s.cfg.n
  · obtain ⟨x, hx, -, hvalues, hothers⟩ := hinside hn
    exact ⟨_, hx, rfl, fun _ => ⟨hvalues, fun k hk => hothers k (.inr hk)⟩, fun h => absurd hn (Nat.not_le.2 h)⟩
  · exact ⟨_, hbeyond (Nat.not_le.1 hn), rfl, fun h => absurd h hn, fun _ => rfl⟩

/-- A step in EXEC that runs an RHR in range loads the response with the registers as they are (R154, R223). -/
theorem step_rhr_inRange {s : State} {a n c : Word} {es : List Event} (hl : s.cfg.legal = true)
    (hp : s.phase = .exec) (hi : s.inputs = .internal :: es)
    (hd : fetchRequest s = .ok (.rhr s.cfg.unitId a n c))
    (hv : verify (requestBody s.cfg.unitId 0x03#8 a n) c = true) (hn : n ≠ 0#16)
    (hr : a.toNat + n.toNat ≤ s.cfg.n) :
    step s = .next (report .okResponse (loadTx (encodeResponse s.cfg.unitId 0x03#8 (byteCount n)
      (memRead s.bank a.toNat n.toNat)) (clearRx { s with inputs := es }))) := by
  rw [(stepRunsTheDecodedInstruction s _ hl).2.1 es hp hi hd]
  exact exec_rhr_inRange (s := { s with inputs := es }) hv rfl hn hr

/-- A step at a write request in range stores the clipped values and nothing else (R194, R227). -/
theorem step_writeRequest_inRange {s : State} {start : Word} {values : List Int} {es : List Event}
    (hl : s.cfg.legal = true) (hi : s.inputs = .loc (writeRequest start values) :: es)
    (hw : (Instr.bankWrite start values).wellFormed s.cfg = true) (hr : start.toNat + values.length ≤ s.cfg.n) :
    step s = .next (emit (.loc true [])
      { s with inputs := es, bank := memWrite s.bank start.toNat (values.map clip16) }) := by
  rw [step_writeRequest hl hi hw]
  exact exec_bankWrite_ok (s := { s with inputs := es }) (bankWrite_inRange _ hr)

/-- Settles O25: whichever step comes first, the read answers from the bank as it then stands, and the write stores
into the same bank. -/
theorem racingReadIsOldOrNew : Obligations.RacingReadIsOldOrNew := by
  intro s a n start values c h hp hfetch hv hn hr hwr hw
  have hl := h.cfgLegal
  have hread := step_rhr_inRange (s := { s with inputs := [.internal, .loc (writeRequest start values)] })
    hl hp rfl hfetch hv hn hr
  have hwrite := step_writeRequest_inRange (s := { s with inputs := [.loc (writeRequest start values), .internal] })
    hl rfl hw hwr
  refine ⟨_, _, _, bankWrite_inRange s.bank hwr,
    (runSteps_succ hread).trans (runSteps_succ (step_writeRequest_inRange hl rfl hw hwr)),
    (runSteps_succ hwrite).trans (runSteps_succ (step_rhr_inRange hl hp rfl hfetch hv hn hr)), rfl, rfl, ?_, ?_⟩
  · exact txFrame_okResponse (s := clearRx { s with inputs := [.loc (writeRequest start values)] }) h.txWf _ _ _ _
  · exact txFrame_okResponse (s := clearRx { s with inputs := [] }) h.txWf _ _ _ _

end Sys2Proof.Machine

/-! SUPPORT. Runs of the request path: eight bytes received one by one, a response sent one byte at a time, and a
request answered from its first byte to the response's last (R221 to R224, program P1 of spec/95). -/

namespace Sys2Proof.Machine

/-- A run in two parts. -/
theorem runSteps_add {j k : Nat} {s u : State} (h : runSteps j s = .next u) :
    runSteps (j + k) s = runSteps k u := by
  induction j generalizing s with
  | zero => cases h; rw [Nat.zero_add]
  | succ j ih =>
    rw [Nat.succ_add]
    cases hv : step s with
    | next v => rw [runSteps_succ hv] at h ⊢; exact ih h
    | fault f => rw [runSteps, hv] at h; cases h
    | refused r => rw [runSteps, hv] at h; cases h

/-- A run from a good state ends in a good state. -/
theorem inv_of_runSteps {k : Nat} {s t : State} (h : s.Inv) (hrun : runSteps k s = .next t) : t.Inv :=
  runSteps_keeps everyStepKeepsInvariants h hrun

/-! ### The bytes sent -/

theorem sentBytes_of_tx {s t : State} {b : Byte} {last : Bool} (h : t.outputs = .tx b last :: s.outputs) :
    sentBytes t = sentBytes s ++ [(b, last)] := by
  simp [sentBytes, h]

theorem sentBytes_of_diag {s t : State} {o : OutcomeCode} (h : t.outputs = .diag o :: s.outputs) :
    sentBytes t = sentBytes s := by
  simp [sentBytes, h]

theorem sentBytes_of_loc {s t : State} {ok : Bool} {vs : List Word} (h : t.outputs = .loc ok vs :: s.outputs) :
    sentBytes t = sentBytes s := by
  simp [sentBytes, h]

theorem sentBytes_congr {s t : State} (h : t.outputs = s.outputs) : sentBytes t = sentBytes s := by
  rw [sentBytes, sentBytes, h]

/-! ### Sending a response -/

/-- The bytes a response has still to send, with their last marks. -/
def remaining (s : State) : List (Byte × Bool) :=
  (List.range (s.txLen - s.txIdx)).map
    (fun k => (cellsRead s.txBuf (s.txIdx + k), decide (s.txIdx + k + 1 = s.txLen)))

/-- A ready transport takes the rest of a response, byte by byte, and the request path ends idle (R224). -/
theorem runs_response (k : Nat) {s : State} {es : List Event} (h : s.Inv) (hp : s.phase = .respond)
    (hk : s.txLen - s.txIdx = k) (hi : s.inputs = List.replicate k .txReady ++ es) :
    ∃ t, runSteps k s = .next t ∧ t.phase = idlePhase s ∧ t.txLen = 0 ∧ t.inputs = es ∧ t.bank = s.bank ∧
      t.rxCnt = s.rxCnt ∧ t.lastOutcome = s.lastOutcome ∧ sentBytes t = sentBytes s ++ remaining s := by
  have hleft := h.txLeft hp
  induction k generalizing s with
  | zero => omega
  | succ k ih =>
    have hi' : s.inputs = .txReady :: (List.replicate k .txReady ++ es) := hi
    have hstep := (txByteSendsInOrder s _ h.cfgLegal hi').1 hp hleft h.txOrder.2
    by_cases hlast : s.txIdx + 1 = s.txLen
    · rw [if_pos hlast] at hstep
      obtain rfl : k = 0 := by omega
      refine ⟨_, runSteps_succ hstep, rfl, rfl, rfl, rfl, rfl, rfl, ?_⟩
      rw [sentBytes_of_tx (s := s) rfl, remaining, hk]
      simp [hlast]
    · rw [if_neg hlast] at hstep
      have hinv := everyStepKeepsInvariants _ _ h hstep
      obtain ⟨t, hrun, htp, htl, hti, htb, htc, hto, hts⟩ :=
        ih hinv hp (show s.txLen - (s.txIdx + 1) = k by omega) rfl (show s.txIdx + 1 < s.txLen by omega)
      refine ⟨t, (runSteps_succ hstep).trans hrun, htp, htl, hti, htb, htc, hto, ?_⟩
      rw [hts, sentBytes_of_tx (s := s) rfl, List.append_assoc]
      congr 1
      rw [remaining, remaining, hk, show s.txLen - (s.txIdx + 1) = k by omega, List.range_succ_eq_map]
      simp [hlast, Nat.add_assoc, Nat.add_comm 1]

/-- Settles O51. -/
theorem responseIsSentWholeAndInOrder : Obligations.ResponseIsSentWholeAndInOrder := by
  intro s es h hp hi
  obtain ⟨t, hrun, htp, htl, hti, htb, -, -, hts⟩ := runs_response _ h hp rfl hi
  exact ⟨t, hrun, htp, htl, hti, htb, hts⟩

/-! ### Receiving a request -/

/-- A burst of one byte more. -/
theorem cellsReadBurst_succ {w : Nat} (m : Cells w) (a n : Nat) :
    cellsReadBurst m a (n + 1) = cellsReadBurst m a n ++ [cellsRead m (a + n)] :=
  cellsReadBurst_add m a n 1

/-- The last bytes of a request, one by one, lead to EXEC with the whole request in the receive buffer (R221). -/
theorem runs_receive (B : List Byte) {s : State} {es : List Event} (h : s.Inv) (hp : s.phase = .accum)
    (hB : s.rxCnt + B.length = 8) (hi : s.inputs = B.map .rxByte ++ es) :
    ∃ t, runSteps B.length s = .next t ∧ t.phase = .exec ∧ t.inputs = es ∧ t.bank = s.bank ∧ t.cfg = s.cfg ∧
      t.stopReq = s.stopReq ∧ t.outputs = s.outputs ∧
      rxBytes t = cellsReadBurst s.rxBuf 0 s.rxCnt ++ B := by
  have hlt := h.rxCnt_lt (by simp [hp])
  induction B generalizing s with
  | nil => simp at hB; omega
  | cons b B ih =>
    obtain ⟨m, hstep, hsame, hother⟩ := (rxByteAccumulates s b _ h.cfgLegal hi).1 hp hlt h.rxWf
    have hread : cellsReadBurst m 0 (s.rxCnt + 1) = cellsReadBurst s.rxBuf 0 s.rxCnt ++ [b] := by
      rw [cellsReadBurst_succ, Nat.zero_add, hsame]
      exact congrArg (· ++ [b]) (cellsReadBurst_congr fun i _ hlt => hother i (by omega))
    rw [List.length_cons] at hB
    by_cases h8 : s.rxCnt + 1 = 8
    · rw [if_pos h8] at hstep
      obtain rfl : B = [] := List.length_eq_zero_iff.1 (by omega)
      exact ⟨_, runSteps_succ hstep, rfl, rfl, rfl, rfl, rfl, rfl, by rw [← hread, h8]; rfl⟩
    · rw [if_neg h8] at hstep
      have hinv := everyStepKeepsInvariants _ _ h hstep
      obtain ⟨t, hrun, htp, hti, htb, htc, hts, hto, htr⟩ :=
        ih hinv rfl (show s.rxCnt + 1 + B.length = 8 by omega) rfl (show s.rxCnt + 1 < 8 by omega)
      refine ⟨t, (runSteps_succ hstep).trans hrun, htp, hti, htb, htc, hts, hto, htr.trans ?_⟩
      rw [hread, List.append_assoc]; rfl

/-! ### End to end -/

/-- A burst is the list of the units it covers, in ascending order. -/
theorem cellsReadBurst_eq_map_range {w : Nat} (m : Cells w) (a n : Nat) :
    cellsReadBurst m a n = (List.range n).map (fun k => cellsRead m (a + k)) := by
  induction n with
  | zero => rfl
  | succ n ih => rw [cellsReadBurst_succ, ih, List.range_succ, List.map_append]; rfl

/-- Before its first byte is sent, what a response has still to send is the whole frame. -/
theorem remaining_fst {s : State} (h : s.txIdx = 0) : (remaining s).map Prod.fst = txFrame s := by
  rw [remaining, txFrame, cellsReadBurst_eq_map_range, List.map_map, h, Nat.sub_zero]
  rfl

/-- The eight bytes of `RHR u, a, n` with its own trailer are fetched as that request (R87, R93). -/
theorem fetchRequest_rhrForm {s : State} {u : Byte} {a n : Word} (h : rxBytes s = rhrForm u a n) :
    fetchRequest s = .ok (.rhr u a n (crc16 (requestBody u 0x03#8 a n))) := by
  rw [fetchRequest, h]
  refine (decodeReq8_eight _ _ _ _ _ _ _ _).trans ((if_pos rfl).trans ?_)
  rw [u16be_hi_lo, u16be_hi_lo, u16le_lo_hi]

/-- Settles O52: the request is received, run, and its response sent. -/
theorem requestIsAnsweredEndToEnd : Obligations.RequestIsAnsweredEndToEnd := by
  intro s a n es h hp hc hn hr hi
  obtain ⟨u, hreceive, hup, hui, hub, hucfg, hustop, huout, hurx⟩ :=
    runs_receive (rhrForm s.cfg.unitId a n) h hp (by rw [hc]; rfl) hi
  rw [hc, ← hucfg] at hurx
  rw [← hub]
  rw [← hucfg] at hr ⊢
  have hu := inv_of_runSteps h hreceive
  have hstep := step_rhr_inRange hu.cfgLegal hup hui (fetchRequest_rhrForm hurx) ((verify_iff _ _).2 rfl) hn hr
  have hv := everyStepKeepsInvariants _ _ hu hstep
  have hlen := (encodeResponse_length u.cfg.unitId 0x03#8 (byteCount n) (memRead u.bank a.toNat n.toNat)).trans
    (by rw [memRead_length])
  obtain ⟨t, hsend, htp, htl, hti, htb, htc, hto, hts⟩ := runs_response (5 + 2 * n.toNat) hv rfl hlen rfl
  have hidle : idlePhase u = .accum := idlePhase_run u (hustop.trans (h.accumRuns hp))
  refine ⟨t, ?_, htp.trans hidle, htc, htl, hti, htb, hto, ?_⟩
  · rw [show 9 + (5 + 2 * n.toNat) = (rhrForm s.cfg.unitId a n).length + ((5 + 2 * n.toNat) + 1) from by
      rw [show (rhrForm s.cfg.unitId a n).length = 8 from rfl]; omega]
    rw [runSteps_add hreceive, runSteps_succ hstep, hsend]
  · rw [hts, List.map_append, remaining_fst rfl, sentBytes_of_diag (s := u) rfl, sentBytes_congr huout]
    exact congrArg _ (txFrame_okResponse (s := clearRx { u with inputs := _ }) hu.txWf _ _ _ _)

end Sys2Proof.Machine

/-! SUPPORT. One clock (R237): which orders of events its inputs allow, what each of two inputs in one clock does
first and second, and what a clock can do to the buffers. -/

namespace Sys2Proof.Machine

/-! ### The events of a clock -/

/-- A clock that starts outside EXEC allows exactly the orders of its inputs' events. -/
theorem admits_iff_perm {c : InputCycle} {s : State} {es : List Event} (hrst : c.rst = false)
    (hp : s.phase ≠ .exec) : c.Admits s es ↔ es.Perm (c.events s) := by
  simp [InputCycle.Admits, hrst, hp]

/-- Apart from the internal step, the events of a clock are those its inputs cause. -/
theorem mem_iff_of_admits {c : InputCycle} {s : State} {es : List Event} {e : Event} (hrst : c.rst = false)
    (hadm : c.Admits s es) (he : e ≠ .internal) : e ∈ es ↔ e ∈ c.events s := by
  rw [InputCycle.Admits, hrst] at hadm
  rcases hadm with hperm | ⟨-, hperm⟩
  · exact hperm.mem_iff
  · rw [hperm.mem_iff, List.mem_cons]
    exact or_iff_right he

/-- A byte is received only when offered while `rx_ready` is 1. -/
theorem rxByte_mem_events (c : InputCycle) (s : State) (b : Byte) :
    .rxByte b ∈ c.events s ↔ c.rxData = some b ∧ rxReady s = true := by
  cases hr : rxReady s <;> simp [InputCycle.events, hr]

/-- A byte is sent only when the transport is ready while `tx_valid` is 1. -/
theorem txReady_mem_events (c : InputCycle) (s : State) :
    .txReady ∈ c.events s ↔ c.txReady = true ∧ txValid s = true := by
  simp [InputCycle.events]

theorem reset_not_mem_events (c : InputCycle) (s : State) : .reset ∉ c.events s := by
  simp [InputCycle.events]

/-! ### Two events -/

/-- A run of two events is the one and then the other. -/
theorem runSteps_two {s u t : State} {e f : Event} (hl : s.cfg.legal = true)
    (he : runEvent e { s with inputs := [f] } = .next u) (hf : runEvent f { u with inputs := [] } = .next t) :
    runSteps 2 { s with inputs := [e, f] } = .next t := by
  have heff := effect_of_runEvent he
  have hfirst : step { s with inputs := [e, f] } = .next u :=
    (step_event (s := { s with inputs := [e, f] }) hl rfl).trans he
  have hsecond : step u = .next t := (step_event (heff.cfg_eq ▸ hl) heff.inputs_eq).trans hf
  exact (runSteps_succ hfirst).trans (runSteps_succ hsecond)

/-- The eighth byte completes the request (R221). -/
theorem rxByte_eighth {s : State} (b : Byte) (hp : s.phase = .accum) (hc : s.rxCnt = 7) :
    rxByte b s = { s with rxBuf := cellsWrite s.rxBuf 7 b, rxCnt := 8, xfail := 0, phase := .exec } := by
  rw [rxByte_accum b hp (by omega), hc]; rfl

/-- Settles O41: the eighth byte completes the frame, which a timeout then leaves alone; or the timeout discards the
frame and the byte starts a new one. -/
theorem eighthByteAndTimeoutInEitherOrder : Obligations.EighthByteAndTimeoutInEitherOrder := by
  intro s b hl hp hc
  refine ⟨?_, ?_, fun es => ?_⟩
  · have hbyte := rxByte_eighth (s := { s with inputs := [.rxTimeout] }) b hp hc
    refine ⟨_, runSteps_two hl (congrArg Host.Outcome.next hbyte)
      (congrArg Host.Outcome.next (rxTimeout_of_not ?_)), rfl, rfl, rfl⟩
    exact fun h => nomatch h.1
  · have htimeout := rxTimeout_partial (s := { s with inputs := [.rxByte b] }) hp (show 0 < s.rxCnt by omega)
    exact ⟨_, runSteps_two hl (congrArg Host.Outcome.next htimeout)
      (congrArg Host.Outcome.next (rxByte_accum b hp (show 0 < 8 by omega))), rfl, rfl, rfl⟩
  · rw [admits_iff_perm rfl (by simp [hp])]
    simp only [InputCycle.events, rxReady, txValid, hp]
    exact List.perm_pair

/-- Settles O55: the last byte ends the response before the failure is counted, or the failure abandons the response
and the transport's readiness finds nothing to send. -/
theorem lastByteAndTransportErrorInEitherOrder : Obligations.LastByteAndTransportErrorInEitherOrder := by
  intro s hl hp hlast hlen hstop
  have hidle : idlePhase s = .accum := idlePhase_run s hstop
  refine ⟨?_, ?_, fun es => ?_⟩
  · have hsend := txByte_last (s := { s with inputs := [.xportErr] }) hp (show s.txIdx < s.cfg.txMax by omega) hlast
    refine ⟨_, runSteps_two hl hsend (congrArg Host.Outcome.next (xportErr_accum hidle)), hidle, rfl, rfl, rfl, ?_⟩
    rw [sentBytes_of_diag (s := toIdle (clearTx (transportOk (emit (.tx (txData s) true) s)))) rfl]
    exact sentBytes_of_tx rfl
  · have herr := xportErr_respond (s := { s with inputs := [.txReady] }) hp
    have hphase : (transportFailed (toIdle (clearTx { s with inputs := [.txReady] }))).phase =
        if 2 ≤ s.xfail then .fatal else .accum := by
      rw [transportFailed_eq, ← hidle]; rfl
    refine ⟨_, runSteps_two hl (congrArg Host.Outcome.next herr) (txByte_of_ne_respond ?_), hphase, rfl, rfl, rfl,
      sentBytes_of_diag rfl⟩
    show (transportFailed (toIdle (clearTx { s with inputs := [.txReady] }))).phase ≠ .respond
    rw [hphase]
    split_ifs <;> decide
  · rw [admits_iff_perm rfl (by simp [hp])]
    simp only [InputCycle.events, rxReady, txValid, hp]
    exact List.perm_pair.trans or_comm

/-! ### Reset -/

/-- Settles O56: a clock with reset high allows one order, whose one step is Reset. -/
theorem resetWinsItsClock : Obligations.ResetWinsItsClock := by
  intro c s t hrst hl
  have hone : ∀ es, c.Admits s es ↔ es = [.reset] := fun es => by rw [InputCycle.Admits, if_pos hrst]
  have hrun : runSteps 1 { s with inputs := [.reset] } = .next { State.boot s.cfg with outputs := s.outputs } :=
    runSteps_succ (step_event (s := { s with inputs := [.reset] }) hl rfl)
  constructor
  · rintro ⟨es, hadm, hes⟩
    obtain rfl := (hone es).1 hadm
    exact (Host.Outcome.next.inj (hrun.symm.trans hes)).symm
  · rintro rfl
    exact ⟨[.reset], (hone _).2 rfl, hrun⟩

/-! ### The handshakes -/

/-- Without a byte offered and without Reset nothing is stored in the receive buffer (R221). -/
theorem Effect.rx_kept {s t : State} {e : Event} (he : Effect s e t) (hb : ∀ b, e ≠ .rxByte b) (hr : e ≠ .reset) :
    t.rxBuf = s.rxBuf ∧ (t.rxCnt = s.rxCnt ∨ t.rxCnt = 0) := by
  cases he with
  | rxByte b => exact absurd rfl (hb b)
  | reset => exact absurd rfl hr
  | timeout | dropped | answered | errAccum | stopPartial => exact ⟨rfl, .inr rfl⟩
  | txMiddle | txLast | errRespond | stopEmpty | stopLatched | locAnswered | locWritten | passed =>
    exact ⟨rfl, .inl rfl⟩

/-- Without a ready transport no byte is sent (R224). -/
theorem Effect.sentBytes_eq {s t : State} {e : Event} (he : Effect s e t) (ht : e ≠ .txReady) :
    sentBytes t = sentBytes s := by
  cases he with
  | txMiddle | txLast => exact absurd rfl ht
  | timeout | dropped | answered | errAccum | errRespond | stopPartial => exact sentBytes_of_diag rfl
  | locAnswered | locWritten => exact sentBytes_of_loc rfl
  | rxByte | stopEmpty | stopLatched | reset | passed => rfl

/-- Settles O54: the events of the clock are those of its handshakes, and no step stores or sends without its event. -/
theorem bytesMoveOnlyOnAHandshake : Obligations.BytesMoveOnlyOnAHandshake := by
  intro c s es hrst hadm
  have hrx : ∀ b, .rxByte b ∈ es ↔ c.rxData = some b ∧ rxReady s = true := fun b =>
    (mem_iff_of_admits hrst hadm (by simp)).trans (rxByte_mem_events c s b)
  have htx : .txReady ∈ es ↔ c.txReady = true ∧ txValid s = true :=
    (mem_iff_of_admits hrst hadm (by simp)).trans (txReady_mem_events c s)
  have hreset : .reset ∉ es := fun h => reset_not_mem_events c s ((mem_iff_of_admits hrst hadm (by simp)).1 h)
  refine ⟨hrx, htx, fun t hrun => ⟨fun hready => ?_, fun hvalid => ?_⟩⟩
  · have hin : ∀ e ∈ es, (∀ b, e ≠ .rxByte b) ∧ e ≠ .reset := fun e he => by
      refine ⟨fun b hb => ?_, fun hr => hreset (hr ▸ he)⟩
      have hr := ((hrx b).1 (hb ▸ he)).2
      rw [hready] at hr; cases hr
    refine runSteps_keeps_of_inputs (s := { s with inputs := es })
      (p := fun e => (∀ b, e ≠ .rxByte b) ∧ e ≠ .reset)
      (I := fun u => u.rxBuf = s.rxBuf ∧ (u.rxCnt = s.rxCnt ∨ u.rxCnt = 0))
      ⟨nofun, nofun⟩ ?_ hin ⟨rfl, .inl rfl⟩ hrun
    rintro u v ⟨hbuf, hcnt⟩ ⟨hb, hr⟩ heff
    obtain ⟨hbuf', hcnt'⟩ := heff.rx_kept hb hr
    refine ⟨hbuf'.trans hbuf, ?_⟩
    rcases hcnt' with hcnt' | hcnt'
    · exact hcnt.imp hcnt'.trans hcnt'.trans
    · exact .inr hcnt'
  · have hin : ∀ e ∈ es, e ≠ .txReady := fun e he ht => by
      have hv := (htx.1 (ht ▸ he)).2
      rw [hvalid] at hv; cases hv
    exact runSteps_keeps_of_inputs (s := { s with inputs := es }) (p := fun e => e ≠ .txReady)
      (I := fun u => sentBytes u = sentBytes s) nofun
      (fun u v hu ht heff => (heff.sentBytes_eq ht).trans hu) hin rfl hrun

end Sys2Proof.Machine
